-- ==== Sys2Proof/Word.lean ====
section
/-! DEFINITION. The word types of the block: bytes, buffer pointers, lengths, slave addresses, status codes. -/

namespace Sys2Proof

/-- `REG_W = 8` bits: a controller register, a buffer byte, a byte on the wire (R5, R30, R60). -/
abbrev Byte := BitVec 8

/-- `PTR_W = 16` bits: a buffer pointer; arithmetic on it is modulo `2^PTR_W` (R5, R63). -/
abbrev Ptr := BitVec 16

/-- `LEN_W` bits, OPEN in R5 (any value of at least 2); this model takes 16, log entry 3. -/
abbrev Len := BitVec 16

/-- A slave address: 7 bits (R27, R98). -/
abbrev Addr7 := BitVec 7

/-- A Bus Status Code: the five bits `SR[7:3]` (R92, R94). -/
abbrev Code := BitVec 5

end Sys2Proof
end

