-- ==== Sys2Proof/Config.lean ====
section
/-! DEFINITION. What one build of the block fixes: the two switches of R5, and the values R5 leaves OPEN
(`F_CLK`, `BRR`), which have no body here. -/

namespace Sys2Proof

/-- The two switches of R5 (`BUS_ERROR_CLOSES`, decision D14; `ERROR_HANDLER_RETURNS`, decision D18).
A state carries them, no step writes them, and a statement about every state covers both values of each. -/
structure Params where
  busErrorCloses : Bool
  errorHandlerReturns : Bool
  deriving DecidableEq, Repr

/-- The values R5 takes by default: both switches off. -/
def Params.default : Params := ⟨false, false⟩

/-- R5, R12: `BRR(speed, F_CLK)`, an uninterpreted total function. A free value (log entry 4): it has no body. -/
opaque Config.brr : BitVec 32 → Nat → Byte

/-- R5: the controller clock frequency in Hz, OPEN. A free value (log entry 4): it has no body. -/
opaque Config.fClk : Nat

end Sys2Proof
end

