-- ==== Sys2Proof/Syntax.lean ====
section
/-! DEFINITION. The syntax: the ports' formats (R90), the event and error codes, the words the decoder reads, and
`Instr`, one constructor per row of spec/opcode_table.json. -/

namespace Sys2Proof

/-- The configured role: master = 0, slave = 1 (R21). -/
inductive Role where
  | master
  | slave
  deriving DecidableEq, Repr

/-- The direction bit of the address byte: write = 0, read = 1 (R96). -/
inductive Dir where
  | write
  | read
  deriving DecidableEq, Repr

/-- The ten event codes of R105, in its order. -/
inductive Event where
  | txCmplt
  | rxCmplt
  | stop
  | errArlo
  | errBerr
  | errAf
  | errOvr
  | errTimeout
  | dataReq
  | dataRcv
  deriving DecidableEq, Repr

/-- The two error codes of R106. -/
inductive ErrorCode where
  | start
  | addrNack
  deriving DecidableEq, Repr

/-- One constructor per row of spec/opcode_table.json (67 rows). The status rows carry no operand (prescaler bits and
bit 2 take no part in the dispatch, R94). A slave address operand is the whole byte of the command word, so that an
address above 0x7F can be written and refused (R96). The controller commands carry the bits of their control word. -/
inductive Instr where
  -- format STATUS (R95): the handler's arms
  | stBusError
  | stStart
  | stRstart
  | stSlawAck
  | stSlawNack
  | stTxdAckMore
  | stTxdAckLast
  | stTxdNack
  | stArbLost
  | stSlarAck
  | stSlarNack
  | stRxdAck
  | stRxdNack
  | ssSlawAck
  | ssArbSlaw
  | ssGcall
  | ssArbGcall
  | ssRxdAck
  | ssRxdNack
  | ssGcRxdAck
  | ssGcRxdNack
  | ssStopRs
  | ssSlarAck
  | ssArbSlar
  | ssTxdAck
  | ssTxdNack
  | ssTxlastAck
  | unassignedD0
  | unassignedD8
  | unassignedE0
  | unassignedE8
  | unassignedF0
  | stNoInfo
  -- format HOSTCMD (R107): the operations of the host command port
  | init (speed : BitVec 32) (ownAddr : Byte) (role : Role)
  | startCondition
  | addressTx (addr : Byte) (dir : Dir)
  | byteWrite (b : Byte)
  | byteReadAckNack (sendAck : Bool)
  | stopCondition
  | masterSend (buf : Ptr) (len : Len) (addr : Byte) (rep : Bool)
  | masterReceive (buf : Ptr) (len : Len) (addr : Byte) (rep : Bool)
  | masterSendAsync (buf : Ptr) (len : Len) (addr : Byte) (rep : Bool)
  | masterReceiveAsync (buf : Ptr) (len : Len) (addr : Byte) (rep : Bool)
  | closeSend
  | closeReceive
  | slaveSendByte (b : Byte)
  | slaveReadByte (sendAck : Bool)
  | unknownE
  | unknownF
  -- format CR (R99 to R104): the controller commands, by the bits of the control word written
  | cmdStart (ea ie : Bool)
  | cmdXmit (ea ie : Bool) (b : Byte)
  | cmdArm (ack ie : Bool)
  | cmdStop (ea ie : Bool)
  | cmdRearm (ea ie : Bool)
  -- format ADDRBYTE (R96)
  | addrByte (addr : Addr7) (dir : Dir)
  -- format EVENT (R105)
  | evTxCmplt
  | evRxCmplt
  | evStop
  | evErrArlo
  | evErrBerr
  | evErrAf
  | evErrOvr
  | evErrTimeout
  | evDataReq
  | evDataRcv
  -- format ERROR (R106)
  | errStart
  | errAddrNack
  deriving DecidableEq, Repr

/-- The port a word stands on (R90): the same bits mean different things on different ports. -/
inductive Format where
  | status
  | hostcmd
  | cr
  | addrbyte
  | event
  | error
  deriving DecidableEq, Repr

/-- What the decoder reads: the port, the table's condition bit of code 0x28 (`inst.TxLen > 0`, R189 and R191; read
by format STATUS only), and the bytes, first byte first. -/
structure CodeWord where
  format : Format
  bytesRemain : Bool
  bytes : List Byte
  deriving DecidableEq, Repr

end Sys2Proof
end

