-- ==== Sys2Proof/WellFormed.lean ====
section
/-! DEFINITION. The static check of an instruction: a slave address operand is a 7-bit value (R96, R98). -/

namespace Sys2Proof

/-- R98: `slaveAddress` (and `own_addr`, R260) is a 7-bit value; a byte above 0x7F is none (R96). -/
def sevenBit (a : Byte) : Bool := decide (a.toNat ≤ 0x7F)

/-- The check: every operand that R98 and R260 give 7 bits has 7 bits. Every other operand's type is its width. -/
def Instr.wellFormed : Instr → Bool
  | .init _ ownAddr _ => sevenBit ownAddr
  | .addressTx addr _ => sevenBit addr
  | .masterSend _ _ addr _ => sevenBit addr
  | .masterReceive _ _ addr _ => sevenBit addr
  | .masterSendAsync _ _ addr _ => sevenBit addr
  | .masterReceiveAsync _ _ addr _ => sevenBit addr
  | .stBusError | .stStart | .stRstart | .stSlawAck | .stSlawNack | .stTxdAckMore | .stTxdAckLast | .stTxdNack
  | .stArbLost | .stSlarAck | .stSlarNack | .stRxdAck | .stRxdNack | .ssSlawAck | .ssArbSlaw | .ssGcall
  | .ssArbGcall | .ssRxdAck | .ssRxdNack | .ssGcRxdAck | .ssGcRxdNack | .ssStopRs | .ssSlarAck | .ssArbSlar
  | .ssTxdAck | .ssTxdNack | .ssTxlastAck | .unassignedD0 | .unassignedD8 | .unassignedE0 | .unassignedE8
  | .unassignedF0 | .stNoInfo => true
  | .startCondition | .byteWrite _ | .byteReadAckNack _ | .stopCondition | .closeSend | .closeReceive
  | .slaveSendByte _ | .slaveReadByte _ | .unknownE | .unknownF => true
  | .cmdStart _ _ | .cmdXmit _ _ _ | .cmdArm _ _ | .cmdStop _ _ | .cmdRearm _ _ | .addrByte _ _ => true
  | .evTxCmplt | .evRxCmplt | .evStop | .evErrArlo | .evErrBerr | .evErrAf | .evErrOvr | .evErrTimeout
  | .evDataReq | .evDataRcv | .errStart | .errAddrNack => true

end Sys2Proof
end

