-- ==== Sys2Proof/Decode.lean ====
section
/-! DEFINITION. The encodings: the status code values and register layouts of 30_encoding.md, the decoder, total on
any bytes and rejecting by name, the encoder written from the same tables, and the table's view of a word. -/

namespace Sys2Proof

/-! ### The status register word (R92, R94) and the status code values (R95, `STATUS_ENC`, log entry 5) -/

/-- R94: `status()` is bits 7:3 of the status register word. -/
def codeOf (w : Byte) : Code := w.extractLsb' 3 5

/-- R92: the prescaler bits of the status register word. -/
def prescalerOf (w : Byte) : BitVec 2 := w.extractLsb' 0 2

/-- R92: the status register word: code, bit 2 reading 0 (R38), prescaler. -/
def statusWord (c : Code) (ps : BitVec 2) : Byte := c ++ 0#1 ++ ps

/-- R94: a code written as the spec writes it, `SR & 0xF8`. -/
def codeByte (c : Code) : Byte := c ++ 0#3

namespace Status

def busError : Code := 0b00000#5
def start : Code := 0b00001#5
def rstart : Code := 0b00010#5
def slawAck : Code := 0b00011#5
def slawNack : Code := 0b00100#5
def txdAck : Code := 0b00101#5
def txdNack : Code := 0b00110#5
def arbLost : Code := 0b00111#5
def slarAck : Code := 0b01000#5
def slarNack : Code := 0b01001#5
def rxdAck : Code := 0b01010#5
def rxdNack : Code := 0b01011#5
def ssSlawAck : Code := 0b01100#5
def ssArbSlaw : Code := 0b01101#5
def ssGcall : Code := 0b01110#5
def ssArbGcall : Code := 0b01111#5
def ssRxdAck : Code := 0b10000#5
def ssRxdNack : Code := 0b10001#5
def ssGcRxdAck : Code := 0b10010#5
def ssGcRxdNack : Code := 0b10011#5
def ssStopRs : Code := 0b10100#5
def ssSlarAck : Code := 0b10101#5
def ssArbSlar : Code := 0b10110#5
def ssTxdAck : Code := 0b10111#5
def ssTxdNack : Code := 0b11000#5
def ssTxlastAck : Code := 0b11001#5
def noInfo : Code := 0b11111#5

end Status

/-- R166, R108: the arm a code selects; code 0x28 selects by `inst.TxLen > 0` (R189, R191). -/
def armOf (bytesRemain : Bool) (c : Code) : Instr :=
  match c.toNat with
  | 0 => .stBusError
  | 1 => .stStart
  | 2 => .stRstart
  | 3 => .stSlawAck
  | 4 => .stSlawNack
  | 5 => if bytesRemain then .stTxdAckMore else .stTxdAckLast
  | 6 => .stTxdNack
  | 7 => .stArbLost
  | 8 => .stSlarAck
  | 9 => .stSlarNack
  | 10 => .stRxdAck
  | 11 => .stRxdNack
  | 12 => .ssSlawAck
  | 13 => .ssArbSlaw
  | 14 => .ssGcall
  | 15 => .ssArbGcall
  | 16 => .ssRxdAck
  | 17 => .ssRxdNack
  | 18 => .ssGcRxdAck
  | 19 => .ssGcRxdNack
  | 20 => .ssStopRs
  | 21 => .ssSlarAck
  | 22 => .ssArbSlar
  | 23 => .ssTxdAck
  | 24 => .ssTxdNack
  | 25 => .ssTxlastAck
  | 26 => .unassignedD0
  | 27 => .unassignedD8
  | 28 => .unassignedE0
  | 29 => .unassignedE8
  | 30 => .unassignedF0
  | _ => .stNoInfo

/-! ### The other formats -/

/-- Why the decoder rejects a word. -/
inductive DecodeError where
  /-- the word ends before its last operand byte -/
  | truncated
  /-- a bit the format leaves without a meaning is 1 -/
  | reservedBits
  /-- R96: an address operand above 0x7F -/
  | addressRange
  /-- a one-bit operand's byte is neither 0 nor 1 -/
  | flagRange
  /-- the control word is none of the five commands (R100 to R104) -/
  | notACommand
  /-- R110: event values 10 to 15, error values 0 and 3 -/
  | unusedCode
  deriving DecidableEq, Repr

/-- What a decoding answers: the instruction and the bytes after it, or the name of what is wrong. -/
abbrev Decoded := Except DecodeError (Instr × List Byte)

/-- R96: `addr_byte(a, dir)`: the 7-bit address in bits 7:1, the direction (0 write, 1 read) in bit 0. -/
def addrByteOf (a : Addr7) (d : Dir) : Byte :=
  a ++ (match d with | .write => 0#1 | .read => 1#1)

/-- A one-bit operand as a byte of the command word. -/
def flagByte (b : Bool) : Byte := if b then 1#8 else 0#8

def flagOf (w : Byte) : Option Bool :=
  if w = 0#8 then some false else if w = 1#8 then some true else none

/-- R21: master = 0, slave = 1. -/
def roleByte : Role → Byte
  | .master => 0#8
  | .slave => 1#8

/-- R96: write = 0, read = 1. -/
def dirByte : Dir → Byte
  | .write => 0#8
  | .read => 1#8

/-- A two-byte operand, low byte first (log entry 6). -/
def wordBytes (v : BitVec 16) : List Byte := [v.extractLsb' 0 8, v.extractLsb' 8 8]

/-- A four-byte operand, low byte first (log entry 6). -/
def longBytes (v : BitVec 32) : List Byte :=
  [v.extractLsb' 0 8, v.extractLsb' 8 8, v.extractLsb' 16 8, v.extractLsb' 24 8]

/-- The operands of `Init` (R260): speed, own_addr, role. -/
def decodeInit : List Byte → Decoded
  | s0 :: s1 :: s2 :: s3 :: a :: r :: rest =>
    if sevenBit a then
      match flagOf r with
      | some false => .ok (.init (s3 ++ s2 ++ s1 ++ s0) a .master, rest)
      | some true => .ok (.init (s3 ++ s2 ++ s1 ++ s0) a .slave, rest)
      | none => .error .flagRange
    else .error .addressRange
  | _ => .error .truncated

/-- The operands of `address_tx` (R133): address, direction. -/
def decodeAddressTx : List Byte → Decoded
  | a :: d :: rest =>
    if sevenBit a then
      match flagOf d with
      | some false => .ok (.addressTx a .write, rest)
      | some true => .ok (.addressTx a .read, rest)
      | none => .error .flagRange
    else .error .addressRange
  | _ => .error .truncated

/-- One byte operand (R134, R243). -/
def decodeByte (mk : Byte → Instr) : List Byte → Decoded
  | b :: rest => .ok (mk b, rest)
  | [] => .error .truncated

/-- One acknowledge operand (R97). -/
def decodeAck (mk : Bool → Instr) : List Byte → Decoded
  | b :: rest =>
    match flagOf b with
    | some k => .ok (mk k, rest)
    | none => .error .flagRange
  | [] => .error .truncated

/-- The operands of the four transactions (R98, R107): buffer, length, slaveAddress, repeatedStart. -/
def decodeTransfer (mk : Ptr → Len → Byte → Bool → Instr) : List Byte → Decoded
  | p0 :: p1 :: l0 :: l1 :: a :: r :: rest =>
    if sevenBit a then
      match flagOf r with
      | some rep => .ok (mk (p1 ++ p0) (l1 ++ l0) a rep, rest)
      | none => .error .flagRange
    else .error .addressRange
  | _ => .error .truncated

/-- R107: the host command port: the opcode in bits 3:0 of the first byte, the operands in the bytes after it. -/
def decodeHost : List Byte → Decoded
  | [] => .error .truncated
  | op :: rest =>
    match op.toNat with
    | 0 => decodeInit rest
    | 1 => .ok (.startCondition, rest)
    | 2 => decodeAddressTx rest
    | 3 => decodeByte .byteWrite rest
    | 4 => decodeAck .byteReadAckNack rest
    | 5 => .ok (.stopCondition, rest)
    | 6 => decodeTransfer .masterSend rest
    | 7 => decodeTransfer .masterReceive rest
    | 8 => decodeTransfer .masterSendAsync rest
    | 9 => decodeTransfer .masterReceiveAsync rest
    | 10 => .ok (.closeSend, rest)
    | 11 => .ok (.closeReceive, rest)
    | 12 => decodeByte .slaveSendByte rest
    | 13 => decodeAck .slaveReadByte rest
    | 14 => .ok (.unknownE, rest)
    | 15 => .ok (.unknownF, rest)
    | _ => .error .reservedBits

/-- R91 (`CR_LAYOUT`, log entry 5): the control register word of the seven fields; bit 1 has no field and is 0. -/
def crWord (int ea sta sto wc en ie : Bool) : Byte :=
  BitVec.ofBool int ++ BitVec.ofBool ea ++ BitVec.ofBool sta ++ BitVec.ofBool sto ++ BitVec.ofBool wc
    ++ BitVec.ofBool en ++ 0#1 ++ BitVec.ofBool ie

/-- R99: the word of a controller command: INT written 1, WC and bit 1 written 0, EN 1, and the fields given. -/
def commandWord (ea sta sto ie : Bool) : Byte := crWord true ea sta sto false true ie

/-- Which command a control word of the form `1x00010x` stands for. The words of `cmd_xmit`, `cmd_arm` and `cmd_rearm`
coincide (R102, R104): what is done beside the write tells them apart, and the byte after the word says which (log entry
6): 0 is `cmd_xmit`, with the byte written to DR after it; 1 is `cmd_arm`; 2 is `cmd_rearm`. -/
def decodeRelease (ea ie : Bool) : List Byte → Decoded
  | k :: rest =>
    match k.toNat, rest with
    | 0, b :: rest' => .ok (.cmdXmit ea ie b, rest')
    | 0, [] => .error .truncated
    | 1, _ => .ok (.cmdArm ea ie, rest)
    | 2, _ => .ok (.cmdRearm ea ie, rest)
    | _, _ => .error .reservedBits
  | [] => .error .truncated

/-- R99 to R104: a controller command's control word. -/
def decodeCr : List Byte → Decoded
  | [] => .error .truncated
  | w :: rest =>
    let ea := w.getLsbD 6
    let ie := w.getLsbD 0
    if w = commandWord ea true false ie then .ok (.cmdStart ea ie, rest)
    else if w = commandWord ea false true ie then .ok (.cmdStop ea ie, rest)
    else if w = commandWord ea false false ie then decodeRelease ea ie rest
    else .error .notACommand

/-- R96: the address byte. -/
def decodeAddrByte : List Byte → Decoded
  | [] => .error .truncated
  | w :: rest => .ok (.addrByte (w.extractLsb' 1 7) (if w.getLsbD 0 then .read else .write), rest)

/-- R105: the event code, 4 bits; 10 to 15 are never emitted (R110). -/
def decodeEvent : List Byte → Decoded
  | [] => .error .truncated
  | w :: rest =>
    match w.toNat with
    | 0 => .ok (.evTxCmplt, rest)
    | 1 => .ok (.evRxCmplt, rest)
    | 2 => .ok (.evStop, rest)
    | 3 => .ok (.evErrArlo, rest)
    | 4 => .ok (.evErrBerr, rest)
    | 5 => .ok (.evErrAf, rest)
    | 6 => .ok (.evErrOvr, rest)
    | 7 => .ok (.evErrTimeout, rest)
    | 8 => .ok (.evDataReq, rest)
    | 9 => .ok (.evDataRcv, rest)
    | n => if n < 16 then .error .unusedCode else .error .reservedBits

/-- R106: the error code, 2 bits; 0 and 3 are never emitted. -/
def decodeError : List Byte → Decoded
  | [] => .error .truncated
  | w :: rest =>
    match w.toNat with
    | 1 => .ok (.errStart, rest)
    | 2 => .ok (.errAddrNack, rest)
    | n => if n < 4 then .error .unusedCode else .error .reservedBits

/-- R94, R166: the status register word; the low three bits take no part. -/
def decodeStatus (bytesRemain : Bool) : List Byte → Decoded
  | [] => .error .truncated
  | w :: rest => .ok (armOf bytesRemain (codeOf w), rest)

/-- The decoder, total on any word of any port. -/
def decode (w : CodeWord) : Decoded :=
  match w.format with
  | .status => decodeStatus w.bytesRemain w.bytes
  | .hostcmd => decodeHost w.bytes
  | .cr => decodeCr w.bytes
  | .addrbyte => decodeAddrByte w.bytes
  | .event => decodeEvent w.bytes
  | .error => decodeError w.bytes

/-! ### The encoder -/

/-- The word of a status code (the prescaler bits 0, R92). -/
def encodeCode (c : Code) : CodeWord := ⟨.status, false, [codeByte c]⟩

/-- The word of a host command: opcode, then operand bytes (R107, log entry 6). -/
def encodeHost (op : Byte) (operands : List Byte) : CodeWord := ⟨.hostcmd, false, op :: operands⟩

def encodeTransfer (op : Byte) (buf : Ptr) (len : Len) (addr : Byte) (rep : Bool) : CodeWord :=
  encodeHost op (wordBytes buf ++ wordBytes len ++ [addr, flagByte rep])

def encodeEvent (n : Byte) : CodeWord := ⟨.event, false, [n]⟩

def encodeError (n : Byte) : CodeWord := ⟨.error, false, [n]⟩

/-- The encoder: the word of an instruction, from the tables of 30_encoding.md. -/
def encode : Instr → CodeWord
  | .stBusError => encodeCode Status.busError
  | .stStart => encodeCode Status.start
  | .stRstart => encodeCode Status.rstart
  | .stSlawAck => encodeCode Status.slawAck
  | .stSlawNack => encodeCode Status.slawNack
  | .stTxdAckMore => ⟨.status, true, [codeByte Status.txdAck]⟩
  | .stTxdAckLast => encodeCode Status.txdAck
  | .stTxdNack => encodeCode Status.txdNack
  | .stArbLost => encodeCode Status.arbLost
  | .stSlarAck => encodeCode Status.slarAck
  | .stSlarNack => encodeCode Status.slarNack
  | .stRxdAck => encodeCode Status.rxdAck
  | .stRxdNack => encodeCode Status.rxdNack
  | .ssSlawAck => encodeCode Status.ssSlawAck
  | .ssArbSlaw => encodeCode Status.ssArbSlaw
  | .ssGcall => encodeCode Status.ssGcall
  | .ssArbGcall => encodeCode Status.ssArbGcall
  | .ssRxdAck => encodeCode Status.ssRxdAck
  | .ssRxdNack => encodeCode Status.ssRxdNack
  | .ssGcRxdAck => encodeCode Status.ssGcRxdAck
  | .ssGcRxdNack => encodeCode Status.ssGcRxdNack
  | .ssStopRs => encodeCode Status.ssStopRs
  | .ssSlarAck => encodeCode Status.ssSlarAck
  | .ssArbSlar => encodeCode Status.ssArbSlar
  | .ssTxdAck => encodeCode Status.ssTxdAck
  | .ssTxdNack => encodeCode Status.ssTxdNack
  | .ssTxlastAck => encodeCode Status.ssTxlastAck
  | .unassignedD0 => encodeCode 0b11010#5
  | .unassignedD8 => encodeCode 0b11011#5
  | .unassignedE0 => encodeCode 0b11100#5
  | .unassignedE8 => encodeCode 0b11101#5
  | .unassignedF0 => encodeCode 0b11110#5
  | .stNoInfo => encodeCode Status.noInfo
  | .init speed a r => encodeHost 0x0 (longBytes speed ++ [a, roleByte r])
  | .startCondition => encodeHost 0x1 []
  | .addressTx a d => encodeHost 0x2 [a, dirByte d]
  | .byteWrite b => encodeHost 0x3 [b]
  | .byteReadAckNack k => encodeHost 0x4 [flagByte k]
  | .stopCondition => encodeHost 0x5 []
  | .masterSend buf len a rep => encodeTransfer 0x6 buf len a rep
  | .masterReceive buf len a rep => encodeTransfer 0x7 buf len a rep
  | .masterSendAsync buf len a rep => encodeTransfer 0x8 buf len a rep
  | .masterReceiveAsync buf len a rep => encodeTransfer 0x9 buf len a rep
  | .closeSend => encodeHost 0xA []
  | .closeReceive => encodeHost 0xB []
  | .slaveSendByte b => encodeHost 0xC [b]
  | .slaveReadByte k => encodeHost 0xD [flagByte k]
  | .unknownE => encodeHost 0xE []
  | .unknownF => encodeHost 0xF []
  | .cmdStart ea ie => ⟨.cr, false, [commandWord ea true false ie]⟩
  | .cmdXmit ea ie b => ⟨.cr, false, [commandWord ea false false ie, 0#8, b]⟩
  | .cmdArm ack ie => ⟨.cr, false, [commandWord ack false false ie, 1#8]⟩
  | .cmdStop ea ie => ⟨.cr, false, [commandWord ea false true ie]⟩
  | .cmdRearm ea ie => ⟨.cr, false, [commandWord ea false false ie, 2#8]⟩
  | .addrByte a d => ⟨.addrbyte, false, [addrByteOf a d]⟩
  | .evTxCmplt => encodeEvent 0x0
  | .evRxCmplt => encodeEvent 0x1
  | .evStop => encodeEvent 0x2
  | .evErrArlo => encodeEvent 0x3
  | .evErrBerr => encodeEvent 0x4
  | .evErrAf => encodeEvent 0x5
  | .evErrOvr => encodeEvent 0x6
  | .evErrTimeout => encodeEvent 0x7
  | .evDataReq => encodeEvent 0x8
  | .evDataRcv => encodeEvent 0x9
  | .errStart => encodeError 0x1
  | .errAddrNack => encodeError 0x2

/-! ### The table's view of a word -/

/-- The low `k` bytes of a number, low byte first. -/
def bytesOf : Nat → Nat → List Byte
  | 0, _ => []
  | k + 1, w => BitVec.ofNat 8 w :: bytesOf k (w / 256)

/-- The port a word of the table is taken to stand on when nothing but its bits is given (log entry 2): the host
command port for a first byte below 0x10, the control register for a first byte that is a command's control word, the
status register for every other byte. -/
def tableFormat (first : Byte) : Format :=
  if first.toNat < 16 then .hostcmd
  else
    match decodeCr [first, 0#8, 0#8] with
    | .ok _ => .cr
    | .error _ => .status

/-- An instruction of the table laid out on its port: seven bytes, the longest host command's length. -/
def tableWord (nbits w : Nat) : CodeWord :=
  let bytes := bytesOf 7 (w % 2 ^ nbits)
  ⟨tableFormat (bytes.headD 0#8), false, bytes⟩

/-- The instruction the decoder reads from a word of the table (bit 0 the least significant bit of the first byte). -/
def decodeTableWord (nbits w : Nat) : Option Instr :=
  match decode (tableWord nbits w) with
  | .ok (i, _) => some i
  | .error _ => none

end Sys2Proof
end

