-- ==== Sys2Proof/Machine/Memory.lean ====
section
/-! DEFINITION. Buffer memory (R43, R60): a sparse list of bytes in one canonical form. -/

namespace Sys2Proof.Machine

/-- The buffer space: the listed bytes, addresses strictly rising, none equal to what an unlisted address reads as. -/
abbrev Memory := List Host.Cell

namespace Memory

/-- What an unlisted address reads as: R47 leaves the content after reset unspecified (DESIGN CHOICE, log entry 7). -/
def fill : Byte := 0x00#8

/-- Reading one byte (R60). -/
def read : Memory → Nat → Byte
  | [], _ => fill
  | (a, b) :: rest, k => if a = k then b else read rest k

/-- Writing one byte (R60), keeping the canonical form. -/
def write : Memory → Nat → Byte → Memory
  | [], k, v => if v = fill then [] else [(k, v)]
  | (a, b) :: rest, k, v =>
    if k < a then (if v = fill then (a, b) :: rest else (k, v) :: (a, b) :: rest)
    else if k = a then (if v = fill then rest else (k, v) :: rest)
    else (a, b) :: write rest k v

/-- The canonical form from address `lo` on: addresses strictly rising, inside the `2^PTR_W` bytes, none unlisted. -/
def wfFrom (lo : Nat) : Memory → Bool
  | [] => true
  | (a, b) :: rest => decide (lo ≤ a) && decide (a < 65536) && decide (b ≠ fill) && wfFrom (a + 1) rest

/-- The canonical form. -/
def wf (m : Memory) : Bool := wfFrom 0 m

/-- Memory holding the given bytes, later ones over earlier ones: the launch parameter of R47. -/
def load : List (Ptr × Byte) → Memory
  | [] => []
  | (a, b) :: rest => write (load rest) a.toNat b

end Memory

end Sys2Proof.Machine
end

