-- ==== Sys2Proof/Machine/State.lean ====
section
/-! DEFINITION. The machine's state, as plain data: Instance State (R20), the six registers (R30), the hidden state
(R44), the observation lists (R11), buffer memory (R43), HOST's place inside a blocking operation (R131), and the outside
world as lists the step reads. Also the reasons a step can stop, and the state after reset. -/

namespace Sys2Proof.Machine

/-- R26: the busy/ready state. -/
inductive BusyState where
  | ready
  | busyTx
  | busyRx
  deriving DecidableEq, Repr

/-- R21: the configuration `Init` writes. -/
structure InstConfig where
  speed : BitVec 32
  ownAddr : Addr7
  role : Role
  deriving DecidableEq, Repr

/-- R20: Instance State. `rep` is `inst.Sr`, the repeated-start flag (R28). -/
structure Inst where
  cfg : InstConfig
  pTx : Ptr
  pRx : Ptr
  txLen : Len
  rxLen : Len
  state : BusyState
  devAddr : Addr7
  rep : Bool
  deriving DecidableEq, Repr

/-- R31: the seven fields of the control register (bit 1 has none and reads 0, R110). -/
structure ControlReg where
  int : Bool
  ea : Bool
  sta : Bool
  sto : Bool
  wc : Bool
  en : Bool
  ie : Bool
  deriving DecidableEq, Repr

/-- R30: the six registers, as names: the register space of R43. -/
inductive Reg where
  | cr
  | sr
  | dr
  | ar
  | amr
  | br
  deriving DecidableEq, Repr

/-- R38: the status register (bit 2 reads 0 and is not writable). -/
structure StatusReg where
  code : Code
  ps : BitVec 2
  deriving DecidableEq, Repr

/-- R44 `env.pend`: the bus activity in flight. -/
inductive Pending where
  | none
  | start
  | tx (b : Byte)
  | rx
  | stop
  | listen
  deriving DecidableEq, Repr

/-- R44: ENV's hidden state. Beside it what R78 needs of a STOP in flight: `stopFirst`, that it still has to go out before
`pend` is served; `stopSilent`, that it puts nothing on the wire; and what R136 needs: `stopGiven`, that a STOP has been
commanded and no START since. -/
structure EnvState where
  pend : Pending
  busOwned : Bool
  stopFirst : Bool
  stopSilent : Bool
  stopGiven : Bool
  deriving DecidableEq, Repr

/-- R11: one bus-level action of the wire trace. -/
inductive WireItem where
  | start
  | rstart
  | tx (b : Byte) (ack : Bool)
  | rx (b : Byte) (ack : Bool)
  | stop
  deriving DecidableEq, Repr

/-- Where HOST stands: idle, or held in `wait_complete` (R131) of a primitive (R132 to R135) or of a transactor
(R151, R152), with the operands and the loop's remaining buffer and length (log entry 10). -/
inductive HostCtl where
  | idle
  | startWait
  | addressWait (dir : Dir)
  | writeWait
  | readWait
  | sendStart (buf : Ptr) (len : Len) (addr : Addr7) (rep : Bool)
  | sendAddress (buf : Ptr) (len : Len) (rep : Bool)
  | sendByte (buf : Ptr) (len : Len) (rep : Bool)
  | receiveStart (buf : Ptr) (len : Len) (addr : Addr7) (rep : Bool)
  | receiveAddress (buf : Ptr) (len : Len) (rep : Bool)
  | receiveByte (buf : Ptr) (len : Len) (rep : Bool)
  deriving DecidableEq, Repr

/-- R137: how far the application has come in an order of primitives: nothing that a byte could follow; a START that
returned false, also inside a transaction; a START that returned true; an address that `address_tx(_, 0)`, or
`address_tx(_, 1)`, returned true for; the last read of an order, the one with `sendAck = false`. -/
inductive HostSeq where
  | closed
  | startFailed
  | started
  | writing
  | reading
  | readDone
  deriving DecidableEq, Repr

/-- R107, column "result": the value a primitive returned. -/
inductive Ret where
  | bool (b : Bool)
  | byte (b : Byte)
  deriving DecidableEq, Repr

/-- What the application's event callback can do (R277). `blocking` is any of the seven blocking operations: refused
there, whatever its operands. `noReturn` is what a callback does that never returns, against R245, R277 and R320. -/
inductive CallbackOp where
  | masterSendAsync (buf : Ptr) (len : Len) (addr : Byte) (rep : Bool)
  | masterReceiveAsync (buf : Ptr) (len : Len) (addr : Byte) (rep : Bool)
  | closeSend
  | closeReceive
  | slaveSendByte (b : Byte)
  | slaveReadByte (sendAck : Bool)
  | init (speed : BitVec 32) (ownAddr : Byte) (role : Role)
  | blocking
  | store (addr : Ptr) (b : Byte)
  | setGie (b : Bool)
  | noReturn
  deriving DecidableEq, Repr

/-- What the application does in normal context (R10, R111): a word on the host command port, the only port it has (R2,
R325), a write to its buffers (R43), the global interrupt enable (R69), or polling for READY (R111). -/
inductive AppMove where
  | command (bytes : List Byte)
  | store (addr : Ptr) (b : Byte)
  | setGie (b : Bool)
  | waitReady
  deriving DecidableEq, Repr

/-- R79: what a remote master does to the block in the slave role. -/
inductive SlaveBus where
  | addressWrite
  | data (b : Byte)
  | stopOrRestart
  | addressRead
  deriving DecidableEq, Repr

/-- One move of ENV with its draws. `reply` is the well-behaved completion (R72 to R75, R78), `busError` and `arbLost`
the completions of R76, `slave` those of R79; `answer` is the unconstrained oracle's (R71): any code, any data, any
wire entries, any write-collision bit (R36). -/
inductive EnvMove where
  | reply (ack : Bool) (data : Byte)
  | busError
  | arbLost
  | slave (bus : SlaveBus)
  | answer (code : Code) (data : Option Byte) (wc : Bool) (wire : List WireItem)
  deriving DecidableEq, Repr

/-- Whose move is next where two agents could move (R10; log entry 9). `rst` is the reset input, with what it leaves
open: `gie` and the buffer memory found after it (R47, R302). -/
inductive Turn where
  | host
  | env
  | rst (gie : Bool) (image : List (Ptr × Byte))
  deriving DecidableEq, Repr

/-- The state of the machine. -/
structure State where
  /-- R20 -/
  inst : Inst
  /-- R31 -/
  cr : ControlReg
  /-- R38 -/
  sr : StatusReg
  /-- R39 -/
  dr : Byte
  /-- R40 -/
  ar : Byte
  /-- R40 -/
  amr : Byte
  /-- R40 -/
  br : Byte
  /-- R44 -/
  env : EnvState
  /-- R44, R272: an input -/
  gie : Bool
  /-- R44, R274 -/
  inHandler : Bool
  /-- R44, R278 -/
  halted : Bool
  /-- R44, R312 -/
  dead : Bool
  /-- R276: the event whose callback is running -/
  delivering : Option Event
  /-- R11 -/
  wire : List WireItem
  /-- R11 -/
  events : List Event
  /-- R11 -/
  errors : List ErrorCode
  /-- R43 -/
  mem : Memory
  /-- R131: HOST inside a blocking operation -/
  host : HostCtl
  /-- R137: the application's place in an order of primitives (log entry 15) -/
  seq : HostSeq
  /-- R107: the last result on the host command port -/
  ret : Option Ret
  /-- R5: the two switches -/
  params : Params
  /-- a control word laid on the register port from outside the block (log entry 1): only `withFetchWord` lays one there;
  no agent and no step does -/
  portWord : Option (List Byte)
  /-- the application's next moves in normal context -/
  app : List AppMove
  /-- what the application's callback does at its next deliveries -/
  callbacks : List (List CallbackOp)
  /-- ENV's next moves -/
  envMoves : List EnvMove
  /-- whose move is next -/
  turns : List Turn
  deriving DecidableEq, Repr

/-- R284: the situations to which neither the source nor the spec gives a behaviour, a closed list. -/
inductive Fault where
  /-- R174: the handler read a code with no arm; raised by the unlisted arms. Safe: on the hardware the handler is
  re-entered without end. Read it as a hang for liveness (R284). -/
  | unlistedStatus (c : Byte)
  /-- R169, R248: a listed code in a state whose guard fails; raised by the guarded arms. Safe. -/
  | spuriousStatus
  /-- R238, R240: the slave callback returned without its one data operation; raised by the slave data arms. R245: a
  callback never returns, so that HOST and the handler never run again; raised by `notify` (log entry 11). Safe: on the
  hardware the whole system stops. -/
  | callbackContract
  /-- R36, R101: the data register written while the operation-complete flag is 0; raised by `cmd_xmit`. Safe. -/
  | writeCollision
  deriving DecidableEq, Repr

/-- R285: operations outside the use the source describes, a closed list; and the model's own two (`malformedWord` and
`notModelled`). -/
inductive Refusal where
  /-- R37: an operation other than `Init` with `CR.EN = 0`. Safe. -/
  | notEnabled
  /-- R130: a blocking operation while the handler could take its completion. Safe. -/
  | interruptEnabledInBlockingPath
  /-- R137, R243, R244: a primitive or slave data operation out of its order or context. Safe. -/
  | outOfSequence
  /-- R150, R310: a blocking operation while an asynchronous transaction is open. Safe. -/
  | blockingWhileBusy
  /-- R277: a blocking operation inside the handler. Safe. -/
  | blockingInHandler
  /-- R152 allows it; nothing raises it here: the literal reading is taken (log entry 14). -/
  | zeroLengthReceive
  /-- R63: a null or wrapping buffer. Safe. -/
  | bufferRange
  /-- R43: a buffer over the register addresses. Safe. -/
  | bufferOverlapsRegisters
  /-- R96: an address operand above 0x7F. Safe. -/
  | addressRange
  /-- R194: a close of one side while the other is busy. Safe. -/
  | closeWrongSide
  /-- R248, R312: a master operation in the slave role. Safe. -/
  | roleMismatch
  /-- R265: `Init` while the instance is busy or its interrupt enabled. Safe. -/
  | initWhileActive
  /-- R107: host opcodes 0xE and 0xF. Safe. -/
  | unknownCommand
  /-- R312: an explicit close under a live transaction. Safe. -/
  | liveTransactionMutation
  /-- A word on a port that the decoder rejects; raised by the step. Safe. -/
  | malformedWord (e : DecodeError)
  /-- An instruction that has no meaning yet; raised by exec's refused arms. Safe. -/
  | notModelled (mnemonic : String)
  deriving DecidableEq, Repr

/-- R45: Instance State is zero-valued. -/
def Inst.reset : Inst :=
  { cfg := { speed := 0#32, ownAddr := 0#7, role := .master }
    pTx := 0#16, pRx := 0#16, txLen := 0#16, rxLen := 0#16
    state := .ready, devAddr := 0#7, rep := false }

/-- R46: `CR = 0x00`. -/
def ControlReg.reset : ControlReg :=
  { int := false, ea := false, sta := false, sto := false, wc := false, en := false, ie := false }

/-- R46: `SR = 0xF8`. -/
def StatusReg.reset : StatusReg := { code := Status.noInfo, ps := 0#2 }

/-- R47. -/
def EnvState.reset : EnvState :=
  { pend := .none, busOwned := false, stopFirst := false, stopSilent := false, stopGiven := false }

/-- The machine right after reset (R45 to R47, R301), with nothing loaded: no program, no ENV move, no memory byte. -/
def State.reset : State :=
  { inst := Inst.reset
    cr := ControlReg.reset
    sr := StatusReg.reset
    dr := 0xFF#8
    ar := 0xFE#8
    amr := 0x00#8
    br := 0x00#8
    env := EnvState.reset
    gie := false
    inHandler := false
    halted := false
    dead := false
    delivering := none
    wire := []
    events := []
    errors := []
    mem := []
    host := .idle
    seq := .closed
    ret := none
    params := Params.default
    portWord := none
    app := []
    callbacks := []
    envMoves := []
    turns := [] }

end Sys2Proof.Machine
end

