-- ==== Sys2Proof/Machine/Flags.lean ====
section
/-! DEFINITION. The flags of R42 and the conditions computed from them: the whole-register views, the interrupt
condition, the busy flag, what a status code says. -/

namespace Sys2Proof.Machine

/-- R91: the control register read whole. -/
def ControlReg.word (c : ControlReg) : Byte := crWord c.int c.ea c.sta c.sto c.wc c.en c.ie

/-- R92: the status register read whole. -/
def StatusReg.word (r : StatusReg) : Byte := statusWord r.code r.ps

/-- R8, R43, R65: `Reg[r]`, a register read whole; no read has a side effect. -/
def State.readReg (s : State) : Reg → Byte
  | .cr => s.cr.word
  | .sr => s.sr.word
  | .dr => s.dr
  | .ar => s.ar
  | .amr => s.amr
  | .br => s.br

/-- R44, R272: the interrupt is pending whenever `CR.INT = 1 and CR.IE = 1`. -/
def State.pendingInterrupt (s : State) : Bool := s.cr.int && s.cr.ie

/-- R272: the condition under which a HANDLER step occurs. -/
def State.interruptCondition (s : State) : Bool :=
  s.pendingInterrupt && s.gie && !s.inHandler && !s.halted

/-- R130: the completion a primitive waits for could be taken by the handler. -/
def State.handlerCouldRun (s : State) : Bool := s.cr.ie && s.gie

/-- R26, R42: the busy flag, `inst.state != READY`. -/
def State.busy (s : State) : Bool := decide (s.inst.state ≠ .ready)

/-- R277: the operation runs in interrupt context. -/
def State.inCallback (s : State) : Bool := s.inHandler || s.delivering.isSome

/-- R132: the codes START-sent and repeated-START-sent. -/
def isStartSent (c : Code) : Bool := decide (c = Status.start) || decide (c = Status.rstart)

/-- R133: "the corresponding ACK status code" of a direction. -/
def addressAck : Dir → Code
  | .write => Status.slawAck
  | .read => Status.slarAck

/-- R74, R137: the codes after which a master data byte is written. -/
def isWritePhase (c : Code) : Bool :=
  decide (c = Status.slawAck) || decide (c = Status.txdAck) || decide (c = Status.txdNack)

/-- R135: the codes after which the controller is in its master-receive phase. -/
def isReadPhase (c : Code) : Bool := decide (c = Status.slarAck) || decide (c = Status.rxdAck)

end Sys2Proof.Machine
end

