-- ==== Sys2Proof/Machine/Operands.lean ====
section
/-! DEFINITION. The operands: address and buffer checks of the port, the acknowledge operand, and the two addressing
forms (register-indirect with post-increment, R60). -/

namespace Sys2Proof.Machine

/-- `NULL` (R5, R22). -/
def null : Ptr := 0#16

/-- A slave address operand as its 7 bits (R98); of a byte that passed `sevenBit` nothing is lost. -/
def addr7 (a : Byte) : Addr7 := a.setWidth 7

/-- R63: a buffer is neither null nor wrapping past the top of the buffer space. An empty one touches no byte. -/
def bufferInRange (buf : Ptr) (len : Len) : Bool :=
  decide (len = 0#16) || (decide (buf ≠ null) && decide (buf.toNat + len.toNat ≤ 65536))

/-- `REG_ADDR` (R64): the data-space address of each register. -/
def Reg.address : Reg → Nat
  | .br => 0xB8
  | .sr => 0xB9
  | .ar => 0xBA
  | .dr => 0xBB
  | .cr => 0xBC
  | .amr => 0xBD

/-- R30: the six registers, in the order of their addresses. -/
def Reg.all : List Reg := [.br, .sr, .ar, .dr, .cr, .amr]

/-- R43: a buffer one of whose bytes stands at a register's address. -/
def bufferOverlaps (buf : Ptr) (len : Len) : Bool :=
  Reg.all.any fun r => decide (buf.toNat ≤ r.address) && decide (r.address < buf.toNat + len.toNat)

/-- R97: the acknowledge computed from the remaining length: ACK when more than one byte remains. -/
def ackFor (remaining : Len) : Bool := decide (1 < remaining.toNat)

/-- R60: the byte at a buffer pointer. -/
def State.byteAt (s : State) (p : Ptr) : Byte := s.mem.read p.toNat

/-- R60: storing a byte at a buffer pointer. -/
def State.storeAt (s : State) (p : Ptr) (b : Byte) : State := { s with mem := s.mem.write p.toNat b }

/-- R60, R187: after a transmit byte is handed over, pointer + 1 modulo `2^PTR_W` and length - 1. -/
def State.advanceTx (s : State) : State :=
  { s with inst := { s.inst with pTx := s.inst.pTx + 1#16, txLen := s.inst.txLen - 1#16 } }

/-- R60, R214: after a received byte is stored, pointer + 1 modulo `2^PTR_W` and length - 1. -/
def State.advanceRx (s : State) : State :=
  { s with inst := { s.inst with pRx := s.inst.pRx + 1#16, rxLen := s.inst.rxLen - 1#16 } }

end Sys2Proof.Machine
end

