-- ==== Sys2Proof/Machine/Ops.lean ====
section
/-! DEFINITION. The shared operations: sequencing of outcomes, the controller commands (R99 to R104), the close
operations (R194, R219), entering and leaving the handler (R274, R275), the error output (R278), reset (R300). -/

namespace Sys2Proof.Machine

/-- What a meaning answers. -/
abbrev Out := Host.Outcome State Fault Refusal

/-- Going on with the next state; a fault or a refusal stays. -/
def andThen (o : Out) (k : State → Out) : Out :=
  match o with
  | .next s => k s
  | .fault r => .fault r
  | .refused r => .refused r

/-- The next state, if the outcome is one. -/
def nextOf : Out → Option State
  | .next s => some s
  | .fault _ => none
  | .refused _ => none

/-- The fault, if the outcome is one. -/
def faultOf : Out → Option Fault
  | .next _ => none
  | .fault r => some r
  | .refused _ => none

/-- The refusal, if the outcome is one. -/
def refusalOf : Out → Option Refusal
  | .next _ => none
  | .fault _ => none
  | .refused r => some r

/-! ### Controller commands -/

/-- R78: a STOP commanded now puts nothing on the wire: the command answers a bus error, or the role is slave. -/
def State.stopIsSilent (s : State) : Bool :=
  decide (s.sr.code = Status.busError) || decide (s.inst.cfg.role = .slave)

/-- R44, R99: a command puts its activity in flight; a STOP that has not gone out yet goes first (R78; DESIGN CHOICE for
any command but START, log entry 16). Whether a STOP is silent is settled here, when its command is given. R136: a STOP
has been commanded until the next START is. -/
def State.launch (s : State) (p : Pending) : EnvState :=
  { s.env with
    pend := p
    stopFirst := s.env.stopFirst || decide (s.env.pend = .stop)
    stopSilent := if p = .stop then s.stopIsSilent else s.env.stopSilent
    stopGiven := decide (p = .stop) || (s.env.stopGiven && decide (p ≠ .start)) }

/-- R99: one write of the control register that starts one bus activity: INT cleared, EN = 1, WC unaffected, the other
fields as given. -/
def State.command (s : State) (ea sta sto ie : Bool) (p : Pending) : State :=
  { s with
    cr := { int := false, ea := ea, sta := sta, sto := sto, wc := s.cr.wc, en := true, ie := ie }
    env := s.launch p }

/-- R100: `cmd_start(set_ie)`. -/
def cmdStart (setIe : Bool) (s : State) : State := s.command s.cr.ea true false (setIe || s.cr.ie) .start

/-- R39, R36: writing the data register, legal only while `CR.INT = 1`. -/
def writeData (b : Byte) (s : State) : Out :=
  if s.cr.int then .next { s with dr := b } else .fault .writeCollision

/-- R101: `cmd_xmit(b)`: first the data register, then the control write. -/
def cmdXmit (b : Byte) (s : State) : Out :=
  andThen (writeData b s) fun t => .next (t.command t.cr.ea false false t.cr.ie (.tx b))

/-- R102: `cmd_arm(ack)`. -/
def cmdArm (ack : Bool) (s : State) : State := s.command ack false false s.cr.ie .rx

/-- R103: `cmd_stop()`. -/
def cmdStop (s : State) : State := s.command s.cr.ea false true s.cr.ie .stop

/-- R104: `cmd_rearm()`. -/
def cmdRearm (s : State) : State := s.command s.cr.ea false false s.cr.ie .listen

/-! ### Close operations -/

/-- R33, R194, R313, R322: clearing the interrupt-enable bit alone. -/
def State.disableInterrupt (s : State) : State := { s with cr := { s.cr with ie := false } }

/-- R194: `CloseSend()`, in its order. -/
def closeSendOp (s : State) : State :=
  let t := s.disableInterrupt
  { t with inst := { t.inst with state := .ready, pTx := null, txLen := 0#16 }, dead := false }

/-- R219: `CloseReceive()`, in its order. -/
def closeReceiveOp (s : State) : State :=
  let t := s.disableInterrupt
  { t with inst := { t.inst with state := .ready, pRx := null, rxLen := 0#16 }, dead := false }

/-! ### The handler's frame, the error output, reset -/

/-- R274: taking the interrupt. The block saves nothing and switches no mode: `in_handler <- true`. -/
def enterHandler (s : State) : State := { s with inHandler := true }

/-- R275: the return from the handler. Nothing is restored: `in_handler <- false`. -/
def leaveHandler (s : State) : State := { s with inHandler := false }

/-- R278: `raise Error(code)`: the code is recorded; with `ERROR_HANDLER_RETURNS` off nothing steps again until reset. -/
def raiseError (e : ErrorCode) (s : State) : State :=
  { s with errors := s.errors ++ [e], halted := s.halted || !s.params.errorHandlerReturns }

/-- R300 to R302, R45 to R47: the reset input. Instance State, the registers, the hidden state and the observation are
at their reset values; buffer memory and `gie`, which reset leaves open, are what the input says; what the outside world
does next stays. -/
def State.afterReset (s : State) (gie : Bool) (image : List (Ptr × Byte)) : State :=
  { State.reset with
    gie := gie
    mem := Memory.load image
    params := s.params
    app := s.app
    callbacks := s.callbacks
    envMoves := s.envMoves
    turns := s.turns }

end Sys2Proof.Machine
end

