-- ==== Sys2Proof/Machine/Commands.lean ====
section
/-! DEFINITION. The rows of formats CR and ADDRBYTE: a controller command as the write of its control word (R91, R99 to
R104), and the address byte handed to the controller (R96, R133, R168). The commands of R9 inside the other meanings are
`cmdStart` and its like in Ops.lean, which take EA and IE from the register; here the word gives them: each command of
Ops.lean is its row with the bits of the register. -/

namespace Sys2Proof.Machine

/-- R100: the control word `1a10010i`. -/
def execCmdStart (ea ie : Bool) (s : State) : Out := .next (s.command ea true false ie .start)

/-- R101: the data register, then the control word `1a00010i`. -/
def execCmdXmit (ea ie : Bool) (b : Byte) (s : State) : Out :=
  andThen (writeData b s) fun t => .next (t.command ea false false ie (.tx b))

/-- R102: the control word `1k00010i`. -/
def execCmdArm (ack ie : Bool) (s : State) : Out := .next (s.command ack false false ie .rx)

/-- R103: the control word `1a01010i`. -/
def execCmdStop (ea ie : Bool) (s : State) : Out := .next (s.command ea false true ie .stop)

/-- R104: the control word `1a00010i`, the data register not written. -/
def execCmdRearm (ea ie : Bool) (s : State) : Out := .next (s.command ea false false ie .listen)

/-- R96: the address byte, handed to the controller as R133 and R168 hand it over (log entry 17). -/
def execAddrByte (addr : Addr7) (dir : Dir) (s : State) : Out := cmdXmit (addrByteOf addr dir) s

end Sys2Proof.Machine
end

