-- ==== Sys2Proof/Machine/Async.lean ====
section
/-! DEFINITION. The asynchronous entry points (R185, R186, R210, R211) and the explicit close operations (R194, R219,
R312), issued by HOST or by the event callback (R277). -/

namespace Sys2Proof.Machine

/-- The checks at the port that both entry points make before anything else (R37, R248, R96; order: log entry 13). -/
def entryRefusal (addr : Byte) (s : State) : Option Refusal :=
  if !s.cr.en then some .notEnabled
  else if s.inst.cfg.role = .slave then some .roleMismatch
  else if !sevenBit addr then some .addressRange
  else none

/-- R63, R43: the checks of a buffer operand. -/
def bufferRefusal (buf : Ptr) (len : Len) : Option Refusal :=
  if !bufferInRange buf len then some .bufferRange
  else if bufferOverlaps buf len then some .bufferOverlapsRegisters
  else none

/-- R185: what an accepted send leaves; an order of primitives that was under way is over (log entry 15). -/
def acceptSend (buf : Ptr) (len : Len) (addr : Addr7) (rep : Bool) (s : State) : State :=
  let t := cmdStart true
    { s with inst := { s.inst with pTx := buf, txLen := len, devAddr := addr, rep := rep } }
  { t with inst := { t.inst with state := .busyTx }, dead := false, seq := .closed }

/-- R210: what an accepted receive leaves; an order of primitives that was under way is over (log entry 15). -/
def acceptReceive (buf : Ptr) (len : Len) (addr : Addr7) (rep : Bool) (s : State) : State :=
  let t := cmdStart true
    { s with inst := { s.inst with pRx := buf, rxLen := len, devAddr := addr, rep := rep } }
  { t with inst := { t.inst with state := .busyRx }, dead := false, seq := .closed }

/-- R185, R186: `MasterSendAsync`; ignored while BUSY or with length 0. -/
def execMasterSendAsync (buf : Ptr) (len : Len) (addr : Byte) (rep : Bool) (s : State) : Out :=
  match entryRefusal addr s with
  | some r => .refused r
  | none =>
    if s.busy || decide (len = 0#16) then .next s
    else
      match bufferRefusal buf len with
      | some r => .refused r
      | none => .next (acceptSend buf len (addr7 addr) rep s)

/-- R210, R211: `MasterReceiveAsync`; ignored while BUSY or with length 0. -/
def execMasterReceiveAsync (buf : Ptr) (len : Len) (addr : Byte) (rep : Bool) (s : State) : Out :=
  match entryRefusal addr s with
  | some r => .refused r
  | none =>
    if s.busy || decide (len = 0#16) then .next s
    else
      match bufferRefusal buf len with
      | some r => .refused r
      | none => .next (acceptReceive buf len (addr7 addr) rep s)

/-- R312: an explicit close of the side `own` (R194: the other side's is refused). -/
def closeRefusal (own : BusyState) (s : State) : Option Refusal :=
  if !s.cr.en then some .notEnabled
  else if s.inst.state = .ready then
    (if s.inst.cfg.role = .slave then some .roleMismatch else none)
  else if s.inst.state = own then
    (if s.dead then none else some .liveTransactionMutation)
  else some .closeWrongSide

/-- R194, R312: `CloseSend()` issued by the application. -/
def execCloseSend (s : State) : Out :=
  match closeRefusal .busyTx s with
  | some r => .refused r
  | none => .next (closeSendOp s)

/-- R219, R312: `CloseReceive()` issued by the application. -/
def execCloseReceive (s : State) : Out :=
  match closeRefusal .busyRx s with
  | some r => .refused r
  | none => .next (closeReceiveOp s)

end Sys2Proof.Machine
end

