-- ==== Sys2Proof/Machine/Init.lean ====
section
/-! DEFINITION. `Init` (46_init.md) and the two host opcodes that are no operation (R107). -/

namespace Sys2Proof.Machine

/-- R260, R261: the configuration, the prescaler, the bit-rate and own-address registers. -/
def State.configured (s : State) (speed : BitVec 32) (ownAddr : Addr7) (role : Role) : State :=
  { s with
    inst := { s.inst with cfg := { speed := speed, ownAddr := ownAddr, role := role } }
    sr := { s.sr with ps := 0#2 }
    br := Config.brr speed Config.fClk
    ar := ownAddr ++ 0#1 }

/-- R262: the control register, written without clearing INT; in the slave role the controller starts to listen. A STOP
still in flight (READY, right after `stop_condition`) is not withdrawn in either role, though CR.STO is written 0: it goes
out, in the slave role before the listening (DESIGN CHOICE, log entry 20). -/
def State.enabled (s : State) (role : Role) : State :=
  match role with
  | .master => { s with cr := { s.cr with ea := false, sta := false, sto := false, en := true, ie := false } }
  | .slave =>
    { s with
      cr := { s.cr with ea := true, sta := false, sto := false, en := true, ie := true }
      env := s.launch .listen }

/-- R260 to R265: `Init(speed, own_addr, role)`. It leaves the application's place in an order of primitives (`seq`) as it
is: the spec does not say what a second `Init` does to one (DESIGN CHOICE, log entry 15). Which refusal comes first is log
entry 13's. -/
def execInit (speed : BitVec 32) (ownAddr : Byte) (role : Role) (s : State) : Out :=
  if s.busy || s.cr.ie then .refused .initWhileActive
  else if !sevenBit ownAddr then .refused .addressRange
  else .next ((s.configured speed (addr7 ownAddr) role).enabled role)

/-- R107: opcode 0xE is not an operation. -/
def execUnknownE (_s : State) : Out := .refused .unknownCommand

/-- R107: opcode 0xF is not an operation. -/
def execUnknownF (_s : State) : Out := .refused .unknownCommand

end Sys2Proof.Machine
end

