-- ==== Sys2Proof/Machine/SlaveData.lean ====
section
/-! DEFINITION. The slave data operations (R243, R244), which only the event callback can use. -/

namespace Sys2Proof.Machine

/-- R243: `SlaveSendByte(byte)`, only inside the callback of a data-requested delivery; it does not wait. -/
def execSlaveSendByte (b : Byte) (s : State) : Out :=
  if !s.cr.en then .refused .notEnabled
  else if s.delivering = some .dataReq then cmdXmit b s
  else .refused .outOfSequence

/-- R244: `SlaveReadByte(sendAck)`, only inside the callback of a data-received delivery and only while `CR.INT = 1`:
the byte in DR is returned and the controller released with `sendAck`, listening. -/
def execSlaveReadByte (sendAck : Bool) (s : State) : Out :=
  if !s.cr.en then .refused .notEnabled
  else if s.delivering = some .dataRcv && s.cr.int then
    .next ({ s with ret := some (.byte s.dr) }.command sendAck false false s.cr.ie .listen)
  else .refused .outOfSequence

end Sys2Proof.Machine
end

