-- ==== Sys2Proof/Machine/Output.lean ====
section
/-! DEFINITION. The two outputs: `notify(ev)` with the application's callback (R276, R277), `raise Error` (R278), and
the rows of formats EVENT and ERROR: what the arms and the blocking transactor put out. No port takes them as input. -/

namespace Sys2Proof.Machine

/-- R277: one thing the callback does. Not returning (R245) is the fault CallbackContract, in either role and whatever the
event (DESIGN CHOICE of the name, log entry 11). -/
def runCallbackOp (op : CallbackOp) (s : State) : Out :=
  match op with
  | .masterSendAsync buf len addr rep => execMasterSendAsync buf len addr rep s
  | .masterReceiveAsync buf len addr rep => execMasterReceiveAsync buf len addr rep s
  | .closeSend => execCloseSend s
  | .closeReceive => execCloseReceive s
  | .slaveSendByte b => execSlaveSendByte b s
  | .slaveReadByte k => execSlaveReadByte k s
  | .init speed a r => execInit speed a r s
  | .blocking => .refused .blockingInHandler
  | .store p b => .next (s.storeAt p b)
  | .setGie b => .next { s with gie := b }
  | .noReturn => .fault .callbackContract

/-- R276: the callback, run to its end: its operations in order. One that never returns has no end: R245 says that it stops
the whole system, and that a violation is a fault; from a faulted state no agent steps (R284). -/
def runCallback : List CallbackOp → State → Out
  | [], s => .next s
  | op :: rest, s => andThen (runCallbackOp op s) (runCallback rest)

/-- What the callback of the next delivery does; with nothing left it does nothing (R263). -/
def State.nextCallback (s : State) : List CallbackOp :=
  match s.callbacks with
  | [] => []
  | ops :: _ => ops

/-- R276: the event is recorded and its callback begins. -/
def beginDelivery (ev : Event) (s : State) : State :=
  { s with events := s.events ++ [ev], delivering := some ev, callbacks := s.callbacks.tail }

/-- R276: the callback has returned. -/
def endDelivery (s : State) : State := { s with delivering := none }

/-- R276: `notify(ev)`. -/
def notify (ev : Event) (s : State) : Out :=
  andThen (runCallback s.nextCallback (beginDelivery ev s)) fun t => .next (endDelivery t)

/-- R105: the event `EV_TX_CMPLT` on the event output. -/
def execEvTxCmplt (s : State) : Out := notify .txCmplt s

/-- R105: the event `EV_RX_CMPLT` on the event output. -/
def execEvRxCmplt (s : State) : Out := notify .rxCmplt s

/-- R105: the event `EV_STOP` on the event output. -/
def execEvStop (s : State) : Out := notify .stop s

/-- R105: the event `EV_ERR_ARLO`; no arm emits it (R281). -/
def execEvErrArlo (s : State) : Out := notify .errArlo s

/-- R105: the event `EV_ERR_BERR` on the event output. -/
def execEvErrBerr (s : State) : Out := notify .errBerr s

/-- R105: the event `EV_ERR_AF` on the event output. -/
def execEvErrAf (s : State) : Out := notify .errAf s

/-- R105: the event `EV_ERR_OVR`; no arm emits it (R281). -/
def execEvErrOvr (s : State) : Out := notify .errOvr s

/-- R105: the event `EV_ERR_TIMEOUT`; no arm emits it (R281). -/
def execEvErrTimeout (s : State) : Out := notify .errTimeout s

/-- R105: the event `EV_DATA_REQ` on the event output (the arm's own check follows it there, R240). -/
def execEvDataReq (s : State) : Out := notify .dataReq s

/-- R105: the event `EV_DATA_RCV` on the event output (the arm's own check follows it there, R238). -/
def execEvDataRcv (s : State) : Out := notify .dataRcv s

/-- R106, R278: the error `ERR_START` on the error output. -/
def execErrStart (s : State) : Out := .next (raiseError .start s)

/-- R106, R278: the error `ERR_ADDR_NACK` on the error output. -/
def execErrAddrNack (s : State) : Out := .next (raiseError .addrNack s)

end Sys2Proof.Machine
end

