-- ==== Sys2Proof/Machine/ReceiveArms.lean ====
section
/-! DEFINITION. The master receive machine's arms (44_master_receive_fsm.md), with the guards of R169. -/

namespace Sys2Proof.Machine

/-- R169: the guard of the arms that store a received byte. -/
def State.canStore (s : State) : Bool :=
  decide (s.inst.state = .busyRx) && decide (s.inst.rxLen ≠ 0#16) && decide (s.inst.pRx ≠ null)

/-- R213, R215: the end of a receive: STOP if asked for, close, notify (order: R171). -/
def endReceive (stop : Bool) (s : State) : Out :=
  notify .rxCmplt (closeReceiveOp (if stop then cmdStop s else s))

/-- R212: address + read acknowledged: ACK or NACK armed by the remaining length. -/
def execStSlarAck (s : State) : Out :=
  if s.inst.state = .busyRx then .next (cmdArm (ackFor s.inst.rxLen) s) else .fault .spuriousStatus

/-- R213: address + read not acknowledged: STOP unconditionally, close, notify. -/
def execStSlarNack (s : State) : Out :=
  if s.inst.state = .busyRx then endReceive true s else .fault .spuriousStatus

/-- R214: byte received, ACK returned: store, advance, decrement, arm by the decremented length. -/
def execStRxdAck (s : State) : Out :=
  if s.canStore then
    let t := (s.storeAt s.inst.pRx s.dr).advanceRx
    .next (cmdArm (ackFor t.inst.rxLen) t)
  else .fault .spuriousStatus

/-- R215: byte received, NACK returned: store, STOP unless repeated start, close, notify. -/
def execStRxdNack (s : State) : Out :=
  if s.canStore then endReceive (!s.inst.rep) (s.storeAt s.inst.pRx s.dr)
  else .fault .spuriousStatus

end Sys2Proof.Machine
end

