-- ==== Sys2Proof/Machine/SharedArms.lean ====
section
/-! DEFINITION. The handler's arms that both master machines share: START (R168), bus error (R172, R173), and the
unlisted codes (R174). -/

namespace Sys2Proof.Machine

/-- R168: the address byte with the direction bit of the busy state. -/
def armStart (s : State) : Out :=
  match s.inst.state with
  | .busyTx => cmdXmit (addrByteOf s.inst.devAddr .write) s
  | .busyRx => cmdXmit (addrByteOf s.inst.devAddr .read) s
  | .ready => .fault .spuriousStatus

/-- R168. -/
def execStStart (s : State) : Out := armStart s

/-- R168: a repeated START is treated alike. -/
def execStRstart (s : State) : Out := armStart s

/-- R173: with `BUS_ERROR_CLOSES`, the close of the side that is busy. -/
def closeBusySide (s : State) : State :=
  match s.inst.state with
  | .busyTx => closeSendOp s
  | .busyRx => closeReceiveOp s
  | .ready => s

/-- R172, R173: STOP, the dead mark, the close the switch asks for. -/
def busErrorState (s : State) : State :=
  let t : State := { cmdStop s with dead := true }
  if t.params.busErrorCloses then closeBusySide t else t

/-- R172: STOP, then the event bus-error(generic). -/
def execStBusError (s : State) : Out := notify .errBerr (busErrorState s)

/-- R174, R284: a code no arm lists. The reference does nothing and is re-entered without end; the model records the
fault on the first such invocation. -/
def armUnlisted (c : Code) : Out := .fault (.unlistedStatus (codeByte c))

/-- R174: arbitration lost as master. -/
def execStArbLost (_s : State) : Out := armUnlisted Status.arbLost

/-- R174, R247. -/
def execSsArbSlaw (_s : State) : Out := armUnlisted Status.ssArbSlaw

/-- R174, R247. -/
def execSsGcall (_s : State) : Out := armUnlisted Status.ssGcall

/-- R174, R247. -/
def execSsArbGcall (_s : State) : Out := armUnlisted Status.ssArbGcall

/-- R174, R247. -/
def execSsGcRxdAck (_s : State) : Out := armUnlisted Status.ssGcRxdAck

/-- R174, R247. -/
def execSsGcRxdNack (_s : State) : Out := armUnlisted Status.ssGcRxdNack

/-- R174, R247. -/
def execSsArbSlar (_s : State) : Out := armUnlisted Status.ssArbSlar

/-- R174, R247. -/
def execSsTxlastAck (_s : State) : Out := armUnlisted Status.ssTxlastAck

/-- R174: an unassigned value. -/
def execUnassignedD0 (_s : State) : Out := armUnlisted 0b11010#5

/-- R174: an unassigned value. -/
def execUnassignedD8 (_s : State) : Out := armUnlisted 0b11011#5

/-- R174: an unassigned value. -/
def execUnassignedE0 (_s : State) : Out := armUnlisted 0b11100#5

/-- R174: an unassigned value. -/
def execUnassignedE8 (_s : State) : Out := armUnlisted 0b11101#5

/-- R174: an unassigned value. -/
def execUnassignedF0 (_s : State) : Out := armUnlisted 0b11110#5

/-- R174: no relevant state. -/
def execStNoInfo (_s : State) : Out := armUnlisted Status.noInfo

end Sys2Proof.Machine
end

