-- ==== Sys2Proof/Machine/SlaveArms.lean ====
section
/-! DEFINITION. The slave event classifier's arms (45_slave_event_classifier.md). -/

namespace Sys2Proof.Machine

/-- R248: a slave code while the role is master has no meaning. -/
def slaveArm (act : State → Out) (s : State) : Out :=
  if s.inst.cfg.role = .slave then act s else .fault .spuriousStatus

/-- R238, R240: the event, then the check that the callback did its one data operation. -/
def deliverData (ev : Event) (s : State) : Out :=
  andThen (notify ev s) fun t => if t.cr.int then .fault .callbackContract else .next t

/-- R237: own address + write: re-armed, no event. -/
def execSsSlawAck (s : State) : Out := slaveArm (fun t => .next (cmdRearm t)) s

/-- R238: data received, ACK returned. -/
def execSsRxdAck (s : State) : Out := slaveArm (deliverData .dataRcv) s

/-- R238: data received, NACK returned. -/
def execSsRxdNack (s : State) : Out := slaveArm (deliverData .dataRcv) s

/-- R239: STOP or repeated START: re-armed, then the event. -/
def execSsStopRs (s : State) : Out := slaveArm (fun t => notify .stop (cmdRearm t)) s

/-- R240: own address + read: the first data request. -/
def execSsSlarAck (s : State) : Out := slaveArm (deliverData .dataReq) s

/-- R240: byte sent and acknowledged: the next data request. -/
def execSsTxdAck (s : State) : Out := slaveArm (deliverData .dataReq) s

/-- R241: byte sent and not acknowledged: re-armed, then the event. -/
def execSsTxdNack (s : State) : Out := slaveArm (fun t => notify .errAf (cmdRearm t)) s

end Sys2Proof.Machine
end

