-- ==== Sys2Proof/Machine/Primitives.lean ====
section
/-! DEFINITION. The five bus primitives (40_bus_primitives.md). A primitive that waits is two steps of HOST: the command,
and, once `CR.INT = 1`, the answer (`hostResume` in Transactor.lean); between them HOST is held (R131). -/

namespace Sys2Proof.Machine

/-- The checks of a blocking operation (R37, R277, R248, R150, R310, R130; order: log entry 13). -/
def blockingRefusal (s : State) : Option Refusal :=
  if !s.cr.en then some .notEnabled
  else if s.inCallback then some .blockingInHandler
  else if s.inst.cfg.role = .slave then some .roleMismatch
  else if s.busy then some .blockingWhileBusy
  else if s.handlerCouldRun then some .interruptEnabledInBlockingPath
  else none

/-- R137: a new order may begin: no START waits for its address. After a START that returned false one may (log entry 15). -/
def State.startOpen (s : State) : Bool := decide (s.seq ≠ .started)

/-- R135, R137: the application is in the reads of a receive, its last one not made yet, and the last completion is a code of the controller's
master-receive phase. -/
def State.readOpen (s : State) : Bool := decide (s.seq = .reading) && isReadPhase s.sr.code

/-- R136, R137: the bus is owned, no STOP has been commanded since the last START, and that START is neither one that only
an address may follow nor one that returned false. -/
def State.stopOpen (s : State) : Bool :=
  s.env.busOwned && !s.env.stopGiven && decide (s.seq ≠ .started) && decide (s.seq ≠ .startFailed)

/-- A primitive in its place: the checks of R130, its operand (R96), the order of R137, then its first action. -/
def primitive (operandOk inOrder : Bool) (act : State → Out) (s : State) : Out :=
  match blockingRefusal s with
  | some r => .refused r
  | none =>
    if !operandOk then .refused .addressRange
    else if inOrder then act s
    else .refused .outOfSequence

/-- HOST is held in `wait_complete` (R131). -/
def State.hold (s : State) (h : HostCtl) : State := { s with host := h }

/-- R137: where the order of primitives stands after a primitive. -/
def State.sequence (s : State) (q : HostSeq) : State := { s with seq := q }

/-- R132: `start_condition()`. -/
def execStartCondition (s : State) : Out :=
  primitive true s.startOpen (fun t => .next ((cmdStart false t).hold .startWait)) s

/-- R133: `address_tx(address, direction)`; after a START only (R137). -/
def execAddressTx (addr : Byte) (dir : Dir) (s : State) : Out :=
  primitive (sevenBit addr) (decide (s.seq = .started))
    (fun t => andThen (cmdXmit (addrByteOf (addr7 addr) dir) t) fun u => .next (u.hold (.addressWait dir))) s

/-- R134: `byte_write(byte)`; in the writes of a send only (R137). -/
def execByteWrite (b : Byte) (s : State) : Out :=
  primitive true (decide (s.seq = .writing))
    (fun t => andThen (cmdXmit b t) fun u => .next (u.hold .writeWait)) s

/-- R137: what a read leaves open: with `sendAck = false` it is the last one. -/
def readSequence (sendAck : Bool) : HostSeq := if sendAck then .reading else .readDone

/-- R135: `byte_read_ack_nack(sendAck)`. -/
def execByteReadAckNack (sendAck : Bool) (s : State) : Out :=
  primitive true s.readOpen
    (fun t => .next (((cmdArm sendAck t).sequence (readSequence sendAck)).hold .readWait)) s

/-- R136: `stop_condition()`; it does not wait. -/
def execStopCondition (s : State) : Out :=
  primitive true s.stopOpen (fun t => .next ((cmdStop t).sequence .closed)) s

end Sys2Proof.Machine
end

