-- ==== Sys2Proof/Machine/Transactor.lean ====
section
/-! DEFINITION. The blocking transactor (41_blocking_transactor.md), and what HOST does when the busy-wait it is held in
sees `CR.INT = 1` (R131 to R135, R151, R152). -/

namespace Sys2Proof.Machine

/-- The checks of a blocking transaction: those of R130 and R150, then its operands (R96, R63, R43), then the order of R137,
since it begins with `start_condition` (R151, R152). -/
def transactionRefusal (buf : Ptr) (len : Len) (addr : Byte) (s : State) : Option Refusal :=
  match blockingRefusal s with
  | some r => some r
  | none =>
    if !sevenBit addr then some .addressRange
    else
      match bufferRefusal buf len with
      | some r => some r
      | none => if s.startOpen then none else some .outOfSequence

/-- R151: `MasterSend`; its first action is START. -/
def execMasterSend (buf : Ptr) (len : Len) (addr : Byte) (rep : Bool) (s : State) : Out :=
  match transactionRefusal buf len addr s with
  | some r => .refused r
  | none => .next (((cmdStart false s).sequence .closed).hold (.sendStart buf len (addr7 addr) rep))

/-- R152: `MasterReceive`; its first action is START. Length 0 is taken literally (log entry 14). -/
def execMasterReceive (buf : Ptr) (len : Len) (addr : Byte) (rep : Bool) (s : State) : Out :=
  match transactionRefusal buf len addr s with
  | some r => .refused r
  | none => .next (((cmdStart false s).sequence .closed).hold (.receiveStart buf len (addr7 addr) rep))

/-- R151, R152: the end of a transaction: STOP unless a repeated start was asked for; HOST goes on. -/
def finishTransaction (rep : Bool) (s : State) : State :=
  (if rep then s else cmdStop s).hold .idle

/-- R151: the next byte of the buffer is written, or the transaction ends. -/
def sendNext (buf : Ptr) (len : Len) (rep : Bool) (s : State) : Out :=
  if len = 0#16 then .next (finishTransaction rep s)
  else andThen (cmdXmit (s.byteAt buf) s) fun t => .next (t.hold (.sendByte (buf + 1#16) (len - 1#16) rep))

/-- R152: the next byte is armed, ACK for all but the last, or the transaction ends. -/
def receiveNext (buf : Ptr) (len : Len) (rep : Bool) (s : State) : Out :=
  if len = 0#16 then .next (finishTransaction rep s)
  else .next ((cmdArm (ackFor len) s).hold (.receiveByte buf len rep))

/-- R151, R152, R153: the error handler is called and the operation returns. -/
def failTransaction (e : ErrorCode) (s : State) : Out := .next ((raiseError e s).hold .idle)

/-- A primitive returns a value to the application (R107), which stands at `q` in the order of R137. -/
def returnValue (r : Ret) (q : HostSeq) (s : State) : Out := .next { s with ret := some r, host := .idle, seq := q }

/-- R137: what a START leaves open: an address if it returned true, else neither an address nor STOP. -/
def startSequence (seen : Bool) : HostSeq := if seen then .started else .startFailed

/-- R137: what an acknowledged address opens. -/
def sequenceOf : Dir → HostSeq
  | .write => .writing
  | .read => .reading

/-- R131: the busy-wait has seen `CR.INT = 1`; HOST goes on with the operation it is in. -/
def hostResume (s : State) : Out :=
  match s.host with
  | .idle => .next s
  | .startWait =>
    returnValue (.bool (isStartSent s.sr.code)) (startSequence (isStartSent s.sr.code)) s
  | .addressWait dir =>
    returnValue (.bool (decide (s.sr.code = addressAck dir)))
      (if s.sr.code = addressAck dir then sequenceOf dir else .closed) s
  | .writeWait => returnValue (.bool (decide (s.sr.code = Status.txdAck))) s.seq s
  | .readWait => returnValue (.byte s.dr) s.seq s
  | .sendStart buf len addr rep =>
    if isStartSent s.sr.code then
      andThen (cmdXmit (addrByteOf addr .write) s) fun t => .next (t.hold (.sendAddress buf len rep))
    else failTransaction .start (s.sequence .startFailed)
  | .sendAddress buf len rep =>
    if s.sr.code = addressAck .write then sendNext buf len rep s else failTransaction .addrNack s
  | .sendByte buf len rep => sendNext buf len rep s
  | .receiveStart buf len addr rep =>
    if isStartSent s.sr.code then
      andThen (cmdXmit (addrByteOf addr .read) s) fun t => .next (t.hold (.receiveAddress buf len rep))
    else failTransaction .start (s.sequence .startFailed)
  | .receiveAddress buf len rep =>
    if s.sr.code = addressAck .read then receiveNext buf len rep s else failTransaction .addrNack s
  | .receiveByte buf len rep =>
    receiveNext (buf + 1#16) (len - 1#16) rep (s.storeAt buf s.dr)

end Sys2Proof.Machine
end

