-- ==== Sys2Proof/Machine/TransmitArms.lean ====
section
/-! DEFINITION. The master transmit machine's arms (43_master_transmit_fsm.md), with the guards of R169. -/

namespace Sys2Proof.Machine

/-- R169: the guard of the arms that hand a buffer byte over. -/
def State.canSend (s : State) : Bool :=
  decide (s.inst.state = .busyTx) && decide (s.inst.txLen ≠ 0#16) && decide (s.inst.pTx ≠ null)

/-- R187, R189: the byte at `pTx` is handed to the controller, the pointer advances, the length decreases. -/
def handOver (s : State) : Out :=
  if s.canSend then andThen (cmdXmit (s.byteAt s.inst.pTx) s) fun t => .next t.advanceTx
  else .fault .spuriousStatus

/-- R188, R191, R192: the end of a transmit: STOP if asked for, close, notify (order: R171). -/
def endTransmit (stop : Bool) (s : State) : Out :=
  notify .txCmplt (closeSendOp (if stop then cmdStop s else s))

/-- R187: address + write acknowledged: the first buffer byte. -/
def execStSlawAck (s : State) : Out := handOver s

/-- R188: address + write not acknowledged: STOP unconditionally, close, notify. -/
def execStSlawNack (s : State) : Out :=
  if s.inst.state = .busyTx then endTransmit true s else .fault .spuriousStatus

/-- R189: data byte acknowledged, bytes remaining: the next buffer byte. -/
def execStTxdAckMore (s : State) : Out := handOver s

/-- R191: data byte acknowledged, none remaining: STOP unless repeated start, close, notify. -/
def execStTxdAckLast (s : State) : Out :=
  if s.inst.state = .busyTx && decide (s.inst.txLen = 0#16) then endTransmit (!s.inst.rep) s
  else .fault .spuriousStatus

/-- R192: data byte not acknowledged: as R191, whatever the length was. -/
def execStTxdNack (s : State) : Out :=
  if s.inst.state = .busyTx then endTransmit (!s.inst.rep) s else .fault .spuriousStatus

end Sys2Proof.Machine
end

