-- ==== Sys2Proof/Machine/Dispatch.lean ====
section
/-! DEFINITION. exec: one arm per constructor of Instr, each one call of its meaning. -/

namespace Sys2Proof.Machine

def exec (i : Instr) (s : State) : Host.Outcome State Fault Refusal :=
  match i with
  | .stBusError => Sys2Proof.Machine.execStBusError s
  | .stStart => Sys2Proof.Machine.execStStart s
  | .stRstart => Sys2Proof.Machine.execStRstart s
  | .stSlawAck => Sys2Proof.Machine.execStSlawAck s
  | .stSlawNack => Sys2Proof.Machine.execStSlawNack s
  | .stTxdAckMore => Sys2Proof.Machine.execStTxdAckMore s
  | .stTxdAckLast => Sys2Proof.Machine.execStTxdAckLast s
  | .stTxdNack => Sys2Proof.Machine.execStTxdNack s
  | .stArbLost => Sys2Proof.Machine.execStArbLost s
  | .stSlarAck => Sys2Proof.Machine.execStSlarAck s
  | .stSlarNack => Sys2Proof.Machine.execStSlarNack s
  | .stRxdAck => Sys2Proof.Machine.execStRxdAck s
  | .stRxdNack => Sys2Proof.Machine.execStRxdNack s
  | .ssSlawAck => Sys2Proof.Machine.execSsSlawAck s
  | .ssArbSlaw => Sys2Proof.Machine.execSsArbSlaw s
  | .ssGcall => Sys2Proof.Machine.execSsGcall s
  | .ssArbGcall => Sys2Proof.Machine.execSsArbGcall s
  | .ssRxdAck => Sys2Proof.Machine.execSsRxdAck s
  | .ssRxdNack => Sys2Proof.Machine.execSsRxdNack s
  | .ssGcRxdAck => Sys2Proof.Machine.execSsGcRxdAck s
  | .ssGcRxdNack => Sys2Proof.Machine.execSsGcRxdNack s
  | .ssStopRs => Sys2Proof.Machine.execSsStopRs s
  | .ssSlarAck => Sys2Proof.Machine.execSsSlarAck s
  | .ssArbSlar => Sys2Proof.Machine.execSsArbSlar s
  | .ssTxdAck => Sys2Proof.Machine.execSsTxdAck s
  | .ssTxdNack => Sys2Proof.Machine.execSsTxdNack s
  | .ssTxlastAck => Sys2Proof.Machine.execSsTxlastAck s
  | .unassignedD0 => Sys2Proof.Machine.execUnassignedD0 s
  | .unassignedD8 => Sys2Proof.Machine.execUnassignedD8 s
  | .unassignedE0 => Sys2Proof.Machine.execUnassignedE0 s
  | .unassignedE8 => Sys2Proof.Machine.execUnassignedE8 s
  | .unassignedF0 => Sys2Proof.Machine.execUnassignedF0 s
  | .stNoInfo => Sys2Proof.Machine.execStNoInfo s
  | .init speed ownAddr role => Sys2Proof.Machine.execInit speed ownAddr role s
  | .startCondition => Sys2Proof.Machine.execStartCondition s
  | .addressTx addr dir => Sys2Proof.Machine.execAddressTx addr dir s
  | .byteWrite b => Sys2Proof.Machine.execByteWrite b s
  | .byteReadAckNack sendAck => Sys2Proof.Machine.execByteReadAckNack sendAck s
  | .stopCondition => Sys2Proof.Machine.execStopCondition s
  | .masterSend buf len addr rep => Sys2Proof.Machine.execMasterSend buf len addr rep s
  | .masterReceive buf len addr rep => Sys2Proof.Machine.execMasterReceive buf len addr rep s
  | .masterSendAsync buf len addr rep => Sys2Proof.Machine.execMasterSendAsync buf len addr rep s
  | .masterReceiveAsync buf len addr rep => Sys2Proof.Machine.execMasterReceiveAsync buf len addr rep s
  | .closeSend => Sys2Proof.Machine.execCloseSend s
  | .closeReceive => Sys2Proof.Machine.execCloseReceive s
  | .slaveSendByte b => Sys2Proof.Machine.execSlaveSendByte b s
  | .slaveReadByte sendAck => Sys2Proof.Machine.execSlaveReadByte sendAck s
  | .unknownE => Sys2Proof.Machine.execUnknownE s
  | .unknownF => Sys2Proof.Machine.execUnknownF s
  | .cmdStart ea ie => Sys2Proof.Machine.execCmdStart ea ie s
  | .cmdXmit ea ie b => Sys2Proof.Machine.execCmdXmit ea ie b s
  | .cmdArm ack ie => Sys2Proof.Machine.execCmdArm ack ie s
  | .cmdStop ea ie => Sys2Proof.Machine.execCmdStop ea ie s
  | .cmdRearm ea ie => Sys2Proof.Machine.execCmdRearm ea ie s
  | .addrByte addr dir => Sys2Proof.Machine.execAddrByte addr dir s
  | .evTxCmplt => Sys2Proof.Machine.execEvTxCmplt s
  | .evRxCmplt => Sys2Proof.Machine.execEvRxCmplt s
  | .evStop => Sys2Proof.Machine.execEvStop s
  | .evErrArlo => Sys2Proof.Machine.execEvErrArlo s
  | .evErrBerr => Sys2Proof.Machine.execEvErrBerr s
  | .evErrAf => Sys2Proof.Machine.execEvErrAf s
  | .evErrOvr => Sys2Proof.Machine.execEvErrOvr s
  | .evErrTimeout => Sys2Proof.Machine.execEvErrTimeout s
  | .evDataReq => Sys2Proof.Machine.execEvDataReq s
  | .evDataRcv => Sys2Proof.Machine.execEvDataRcv s
  | .errStart => Sys2Proof.Machine.execErrStart s
  | .errAddrNack => Sys2Proof.Machine.execErrAddrNack s

end Sys2Proof.Machine
end

