-- ==== Sys2Proof/Machine/Env.lean ====
section
/-! DEFINITION. ENV: the controller, the bus and the remote device (R71 to R79). A move that the pending activity does
not admit is no move: nothing changes (log entry 16). -/

namespace Sys2Proof.Machine

/-- R71: a completion: the flag is set, the code written, the activity over. -/
def State.complete (s : State) (c : Code) : State :=
  { s with
    cr := { s.cr with int := true }
    sr := { s.sr with code := c }
    env := { s.env with pend := .none } }

/-- R11: ENV appends to the wire trace. -/
def State.onWire (s : State) (items : List WireItem) : State := { s with wire := s.wire ++ items }

/-- R78: what is in flight once a STOP has gone out: the activity queued behind it; else, in the slave role, the
controller listens again (R242); else nothing. -/
def State.pendAfterStop (s : State) : Pending :=
  if s.env.stopFirst then s.env.pend
  else match s.inst.cfg.role with
    | .master => .none
    | .slave => .listen

/-- R78: the STOP goes out: no completion, no interrupt. -/
def State.stopServed (s : State) : State :=
  { s with
    wire := if s.env.stopSilent then s.wire else s.wire ++ [.stop]
    cr := { s.cr with sto := false }
    sr := { s.sr with code := Status.noInfo }
    env := { s.env with pend := s.pendAfterStop, busOwned := false, stopFirst := false, stopSilent := false } }

/-- R72: the well-behaved completion of START. -/
def State.startServed (s : State) : State :=
  let t := (s.onWire [if s.env.busOwned then .rstart else .start]).complete
    (if s.env.busOwned then Status.rstart else Status.start)
  { t with env := { t.env with busOwned := true } }

/-- R73, R74, R79: the code that answers a transmitted byte, by the phase the previous code says the controller is in. -/
def txAnswer (previous : Code) (ea : Bool) (b : Byte) (ack : Bool) : Option Code :=
  if isStartSent previous then
    some (match b.getLsbD 0, ack with
      | false, true => Status.slawAck
      | false, false => Status.slawNack
      | true, true => Status.slarAck
      | true, false => Status.slarNack)
  else if isWritePhase previous || decide (previous = Status.slawNack) then
    some (if ack then Status.txdAck else Status.txdNack)
  else if decide (previous = Status.ssSlarAck) || decide (previous = Status.ssTxdAck) then
    some (if ack then (if ea then Status.ssTxdAck else Status.ssTxlastAck) else Status.ssTxdNack)
  else none

/-- R73, R74, R79: the well-behaved completion of TX(b). -/
def State.txServed (s : State) (b : Byte) (ack : Bool) : State :=
  match txAnswer s.sr.code s.cr.ea b ack with
  | some c => (s.onWire [.tx b ack]).complete c
  | none => s

/-- R75: the well-behaved completion of RX in the master role: the acknowledge is `CR.EA`. -/
def State.rxServed (s : State) (d : Byte) : State :=
  if isReadPhase s.sr.code then
    { (s.onWire [.rx d s.cr.ea]).complete (if s.cr.ea then Status.rxdAck else Status.rxdNack) with dr := d }
  else s

/-- R72 to R75, R78: the well-behaved completion of what is in flight, a queued STOP first. -/
def State.replied (s : State) (ack : Bool) (d : Byte) : State :=
  if s.env.stopFirst then s.stopServed
  else match s.env.pend with
    | .none => s
    | .start => s.startServed
    | .tx b => s.txServed b ack
    | .rx => s.rxServed d
    | .stop => s.stopServed
    | .listen => s

/-- R76, R79: the activities that can answer a bus error: every command but STOP, and the slave role's. -/
def Pending.canFail : Pending → Bool
  | .start | .tx _ | .rx | .listen => true
  | .none | .stop => false

/-- R76: the activities of a master, which can lose the bus. -/
def State.masterPending (s : State) : Bool :=
  match s.env.pend with
  | .start | .rx => true
  | .tx _ => decide (s.inst.cfg.role = .master)
  | .none | .stop | .listen => false

/-- R79: the codes after which the block is addressed for writing. -/
def slaveReceiving (c : Code) : Bool := decide (c = Status.ssSlawAck) || decide (c = Status.ssRxdAck)

/-- R79: what a remote master does to a listening slave. -/
def State.slaveServed (s : State) : SlaveBus → State
  | .addressWrite =>
    if s.cr.ea && !slaveReceiving s.sr.code then s.complete Status.ssSlawAck else s
  | .data b =>
    if slaveReceiving s.sr.code then
      { (s.onWire [.rx b s.cr.ea]).complete (if s.cr.ea then Status.ssRxdAck else Status.ssRxdNack) with dr := b }
    else s
  | .stopOrRestart => if slaveReceiving s.sr.code then s.complete Status.ssStopRs else s
  | .addressRead =>
    if s.cr.ea && !slaveReceiving s.sr.code then s.complete Status.ssSlarAck else s

/-- R71: the unconstrained oracle's completion: any code, any data, any wire entries, any write-collision bit. What
R71 leaves open is settled so (DESIGN CHOICE, log entry 16): a START code marks the bus owned, a START having been sent
(R44); nothing clears that mark, also if the wire entries hold a STOP; a STOP queued before the activity is dropped and
never goes out; CR.STO stays as it is, also if a STOP was in flight. -/
def State.answered (s : State) (c : Code) (d : Option Byte) (wc : Bool) (items : List WireItem) : State :=
  let t := (s.onWire items).complete c
  { t with
    dr := d.getD s.dr
    cr := { t.cr with wc := wc }
    env := { t.env with busOwned := s.env.busOwned || isStartSent c, stopFirst := false, stopSilent := false } }

/-- R71 to R79: one move of ENV. While `CR.INT = 1` it changes nothing (R32, R68). -/
def envStep (m : EnvMove) (s : State) : State :=
  match m with
  | .reply ack d => if s.cr.int then s else s.replied ack d
  | .busError =>
    if !s.cr.int && !s.env.stopFirst && s.env.pend.canFail then s.complete Status.busError else s
  | .arbLost =>
    if !s.cr.int && !s.env.stopFirst && s.masterPending then s.complete Status.arbLost else s
  | .slave bus =>
    if !s.cr.int && !s.env.stopFirst && s.cr.en && decide (s.env.pend = .listen) then s.slaveServed bus else s
  | .answer c d wc items => if s.cr.int || decide (s.env.pend = .none) then s else s.answered c d wc items

end Sys2Proof.Machine
end

