-- ==== Sys2Proof/Machine/Agents.lean ====
section
/-! DEFINITION. The steps of the agents (R10): one HANDLER invocation (R166, R274, R275), one move of ENV, one move of
HOST; what a halted block does; and whose move is next. -/

namespace Sys2Proof.Machine

/-- R166: the handler reads the status register once and finds its arm. -/
def State.fetchArm (s : State) : Instr :=
  armOf (decide (s.inst.txLen ≠ 0#16)) (codeOf (s.readReg .sr))

/-- R165, R274, R275: one handler invocation. -/
def handlerStep (s : State) : Out :=
  andThen (exec s.fetchArm (enterHandler s)) fun t => .next (leaveHandler t)

/-- R107: a word on the host command port: it is decoded and run. The decoder looks at the word before the operation looks
at the state, so a word with an address above 0x7F is refused AddressRange, whatever other refusal would hold of the
operation (NotEnabled, RoleMismatch, InitWhileActive and the rest): the spec gives no order (DESIGN CHOICE, log entry 13).
The other words the decoder rejects are refused under a name of the model's own (log entry 22). Bytes after the last
operand, of which R107 says nothing, are dropped and the command runs (DESIGN CHOICE, log entry 6). -/
def issueWord (bytes : List Byte) (s : State) : Out :=
  match decodeHost bytes with
  | .ok (i, _) => exec i s
  | .error .addressRange => .refused .addressRange
  | .error e => .refused (.malformedWord e)

/-- A control word laid on the register port from outside the block (log entry 1): it is decoded and run; bytes after
its last operand are dropped (log entry 6). -/
def portWordStep (bytes : List Byte) (s : State) : Out :=
  match decodeCr bytes with
  | .ok (i, _) => exec i s
  | .error e => .refused (.malformedWord e)

/-- R111: `WaitReady()` polls `inst.state`; it is over once READY is read. -/
def waitReady (rest : List AppMove) (s : State) : Out :=
  if s.busy then .next s else .next { s with app := rest }

/-- One move of HOST: idle, the application's next move; held in a wait, going on once `CR.INT = 1`, else polling. -/
def hostTurn (s : State) : Out :=
  match s.host with
  | .idle =>
    match s.app with
    | [] => .next s
    | .command bytes :: rest => issueWord bytes { s with app := rest }
    | .store p b :: rest => .next ({ s with app := rest }.storeAt p b)
    | .setGie b :: rest => .next { s with app := rest, gie := b }
    | .waitReady :: rest => waitReady rest s
  | _ => if s.cr.int then hostResume s else .next s

/-- One move of ENV; with no move left it does not act (R77). -/
def envTurn (s : State) : State :=
  match s.envMoves with
  | [] => s
  | m :: rest => envStep m { s with envMoves := rest }

/-- R278: no agent steps while halted. -/
def haltedStep (s : State) : Out := .next { s with turns := s.turns.tail }

/-- R80: with nothing said, ENV completes a pending activity before HOST goes on (the eager schedule). -/
def State.envIsNext (s : State) : Bool := decide (s.env.pend ≠ .none) && !s.envMoves.isEmpty

/-- HOST's or ENV's move, as `turns` says. -/
def agentMove (s : State) : Out :=
  match s.turns with
  | .env :: rest => .next (envTurn { s with turns := rest })
  | .host :: rest => hostTurn { s with turns := rest }
  | _ => if s.envIsNext then .next (envTurn s) else hostTurn s

/-- HOST's or ENV's move; before it the control word that stands on the register port, which only `withFetchWord` puts
there. -/
def agentStep (s : State) : Out :=
  match s.portWord with
  | some bytes => portWordStep bytes { s with portWord := none }
  | none => agentMove s

/-- The reset input, if it is what comes next. -/
def State.resetNext (s : State) : Option State :=
  match s.turns with
  | .rst gie image :: rest => some ({ s with turns := rest }.afterReset gie image)
  | _ => none

/-- The machine takes no reset turn before it does anything else. -/
def Turn.isReset : Turn → Bool
  | .rst _ _ => true
  | .host | .env => false

/-- A word of format STATUS where the handler reads it: the code and the prescaler in SR (R166), the condition R272, the
length the row's condition names (code 0x28 stands for its row with `inst.TxLen = 0`), and no reset before it. -/
def State.withStatusWord (s : State) (w : Byte) : State :=
  { s with
    sr := { code := codeOf w, ps := prescalerOf w }
    cr := { s.cr with int := true, ie := true }
    gie := true
    inHandler := false
    halted := false
    inst := { s.inst with txLen := if codeOf w = Status.txdAck then 0#16 else s.inst.txLen }
    turns := s.turns.dropWhile Turn.isReset }

/-- A host command where HOST takes its next move: HOST idle and its turn next, no interrupt before it. -/
def State.withCommand (s : State) (bytes : List Byte) : State :=
  { s with
    portWord := none
    app := .command bytes :: s.app
    host := .idle
    halted := false
    gie := s.gie && !s.pendingInterrupt
    turns := .host :: s.turns }

/-- A control word on the register port, with no reset and no interrupt before it. -/
def State.withControlWord (s : State) (bytes : List Byte) : State :=
  { s with
    portWord := some bytes
    halted := false
    gie := s.gie && !s.pendingInterrupt
    turns := s.turns.dropWhile Turn.isReset }

end Sys2Proof.Machine
end

