-- ==== Sys2Proof/Machine/Step.lean ====
section
/-! DEFINITION. One step of the machine, and an instruction of the table put where the next step runs it. -/

namespace Sys2Proof.Machine

/-- One step: the reset input; a halted block (R278); the handler while its condition holds (R272, R275); else HOST or
ENV (R10). -/
def step (s : State) : Host.Outcome State Fault Refusal :=
  match s.resetNext with
  | some t => .next t
  | none =>
    if s.halted then haltedStep s
    else if s.interruptCondition then handlerStep s
    else agentStep s

/-- The word of the table where the very next step runs it (log entries 1 and 2). -/
def State.withFetchWord (s : State) (nbits w : Nat) : State :=
  let word := tableWord nbits w
  match word.format with
  | .status => s.withStatusWord (word.bytes.headD 0#8)
  | .cr => s.withControlWord word.bytes
  | .hostcmd | .addrbyte | .event | .error => s.withCommand word.bytes

end Sys2Proof.Machine
end

