-- ==== Sys2Proof/Safety.lean ====
section
/-! DEFINITION. The terms claims use: the invariant of every step, when HOST and ENV move, the silent callback, the reference environments of R80, and the conditions on operands and contexts under which an
operation runs. -/

namespace Sys2Proof

/-- R281: the three events that no rule emits. -/
def Event.unraised : Event → Bool
  | .errArlo | .errOvr | .errTimeout => true
  | .txCmplt | .rxCmplt | .stop | .errBerr | .errAf | .dataReq | .dataRcv => false

end Sys2Proof

namespace Sys2Proof.Machine

/-- The invariant: memory in its canonical form; R29 clauses 1 to 3 in the form of 90_conflicts.md C2 and of the
unconstrained ENV (the length of a BUSY side may be 0), and without clause 3's non-null pointer at length 0 (a buffer that
ends at address 0xFFFF, which R63 admits, leaves NULL in the pointer after its last byte: DESIGN CHOICE, log entry 24); R235: a slave instance is READY; R130, R150: while HOST is held in
a blocking operation the instance is READY, the role master and the handler cannot run; R274, R275: between steps no
handler and no callback is under way; R325: nothing but the block's own commands writes the controller's registers. -/
structure Inv (s : State) : Prop where
  memory : s.mem.wf = true
  ready : s.inst.state = .ready →
    s.inst.pTx = null ∧ s.inst.pRx = null ∧ s.inst.txLen = 0#16 ∧ s.inst.rxLen = 0#16
  sending : s.inst.state = .busyTx →
    s.inst.pRx = null ∧ s.inst.rxLen = 0#16 ∧
    (s.inst.txLen ≠ 0#16 → s.inst.pTx ≠ null ∧ s.inst.pTx.toNat + s.inst.txLen.toNat ≤ 65536)
  receiving : s.inst.state = .busyRx →
    s.inst.pTx = null ∧ s.inst.txLen = 0#16 ∧
    (s.inst.rxLen ≠ 0#16 → s.inst.pRx ≠ null ∧ s.inst.pRx.toNat + s.inst.rxLen.toNat ≤ 65536)
  slaveReady : s.inst.cfg.role = .slave → s.inst.state = .ready
  blocking : s.host ≠ .idle →
    s.inst.state = .ready ∧ s.inst.cfg.role = .master ∧ s.handlerCouldRun = false
  noHandler : s.inHandler = false
  noDelivery : s.delivering = none
  noPortWord : s.portWord = none

/-- The callback of the next delivery does nothing (R263, the default). -/
def QuietCallback (s : State) : Prop := s.nextCallback = []

/-- A callback that issues no `Init`, which R277 does not list (it can set `CR.IE` while a completion is unreleased). -/
def CallbackWithoutInit (s : State) : Prop :=
  ∀ op ∈ s.nextCallback, ∀ (speed : BitVec 32) (a : Byte) (r : Role), op ≠ .init speed a r

/-- R276: the event has been delivered to a callback that does nothing. -/
def delivered (ev : Event) (s : State) : State :=
  { s with events := s.events ++ [ev], delivering := none, callbacks := s.callbacks.tail }

/-- R37, R277, R248, R150, R130: a blocking operation may run. -/
def BlockingAllowed (s : State) : Prop :=
  s.cr.en = true ∧ s.inHandler = false ∧ s.delivering = none ∧ s.inst.cfg.role = .master ∧
    s.inst.state = .ready ∧ (s.cr.ie = false ∨ s.gie = false)

/-- R63, R43: the whole buffer lies in the buffer space, above NULL, with no byte at a register's address; an empty buffer
has no byte. -/
def BufferFits (buf : Ptr) (len : Len) : Prop :=
  len = 0#16 ∨ buf ≠ 0#16 ∧ buf.toNat + len.toNat ≤ 65536 ∧
    ∀ r : Reg, r.address < buf.toNat ∨ buf.toNat + len.toNat ≤ r.address

/-- R37, R248, R96: a master entry point is admitted with this address. -/
def EntryAllowed (addr : Byte) (s : State) : Prop :=
  s.cr.en = true ∧ s.inst.cfg.role = .master ∧ addr.toNat ≤ 0x7F

/-- R80 `ENV_ACK`: `n` completions, each acknowledged. -/
def acknowledging (n : Nat) : List EnvMove := List.replicate n (.reply true 0#8)

/-- R80 `ENV_ACK` with the data bytes' acknowledges drawn as listed (`ENV_DATA_NACK` among them). -/
def answering (acks : List Bool) : List EnvMove := acks.map fun a => .reply a 0#8

/-- R80 `ENV_YIELD(list)`: the completions of receives that yield the listed bytes. -/
def yielding (bytes : List Byte) : List EnvMove := bytes.map fun b => .reply true b

/-- Nothing is under way and no turn is laid down: HOST is idle with the bytes `w` as its next and only command, ENV has `moves` to
answer with, the callback does nothing, and the eager schedule of R80 runs. -/
structure Poised (s : State) (w : List Byte) (moves : List EnvMove) : Prop where
  running : s.halted = false
  noHandler : s.inHandler = false
  noDelivery : s.delivering = none
  noCallback : s.callbacks = []
  idle : s.host = .idle
  word : s.app = [.command w]
  noPortWord : s.portWord = none
  moves : s.envMoves = moves
  eager : s.turns = []
  quiet : s.env.pend = .none ∧ s.env.stopFirst = false
  enabled : s.cr.en = true
  masked : s.cr.ie = false
  master : s.inst.cfg.role = .master
  ready : s.inst.state = .ready

/-- No reset input is among the turns to come. -/
def NoReset (s : State) : Prop := ∀ t ∈ s.turns, t.isReset = false

/-- A step from this state is not the reset input's. -/
def ResetNotNext (s : State) : Prop := s.resetNext = none

/-- R10, R272: the next step is HOST's or ENV's: no reset comes, the block is not halted, the interrupt condition does not
hold, and nothing stands on the register port. -/
structure AgentsMove (s : State) : Prop where
  noReset : ResetNotNext s
  running : s.halted = false
  noInterrupt : s.cr.int = false ∨ s.cr.ie = false ∨ s.gie = false ∨ s.inHandler = true
  noPortWord : s.portWord = none

/-- The bytes of a buffer in ascending address order (R61). -/
def bufferBytes (m : Memory) (buf len : Nat) : List Byte := (List.range len).map fun k => m.read (buf + k)

end Sys2Proof.Machine
end

