-- ==== Sys2Proof/Certificates/Slice0/Obligations.lean ====
section
/-! DEFINITION. The statements for the provers. In a statement about an instruction the next state is written whole, so
that what it leaves unchanged (registers, flags, memory, the hidden state) is part of what is stated; `s.command` is the
controller command that `Obligations.ControllerCommands` writes out field by field. -/

open Sys2Proof Sys2Proof.Machine

/-! ### Encoding -/

/-- R94 to R107: decoding the encoding of a well-formed instruction, with any bytes after it, gives it back. -/
def Obligations.DecodeOfEncodeIsInstruction : Prop :=
  ∀ i : Instr, i.wellFormed = true → ∀ rest : List Byte,
    decode ⟨(encode i).format, (encode i).bytesRemain, (encode i).bytes ++ rest⟩ = .ok (i, rest)

/-- The other direction: a word that decodes is well formed, and is the encoding of what it decodes to; of a status word
the low three bits take no part (R94), and code 0x28 is decoded by the condition of R189 and R191. -/
def Obligations.DecodedWordIsItsEncoding : Prop :=
  ∀ (w : CodeWord) (i : Instr) (rest : List Byte), decode w = .ok (i, rest) →
    i.wellFormed = true ∧ (encode i).format = w.format ∧
      (w.format = .status → ∃ b : Byte, w.bytes = b :: rest ∧ (encode i).bytes = [b &&& 0xF8#8] ∧
        (b &&& 0xF8#8 = 0x28#8 → i = if w.bytesRemain then .stTxdAckMore else .stTxdAckLast)) ∧
      (w.format ≠ .status → w.bytes = (encode i).bytes ++ rest)

/-- R95, R96, R100 to R107: words written out from the spec's tables decode to the instruction the table names. -/
def Obligations.SpecifiedWordsDecode : Prop :=
  decode ⟨.status, false, [0x18#8]⟩ = .ok (.stSlawAck, []) ∧
  decode ⟨.status, true, [0x2B#8]⟩ = .ok (.stTxdAckMore, []) ∧
  decode ⟨.status, false, [0x2B#8]⟩ = .ok (.stTxdAckLast, []) ∧
  decode ⟨.status, false, [0xB8#8]⟩ = .ok (.ssTxdAck, []) ∧
  decode ⟨.hostcmd, false, [0x8#8, 0x00#8, 0x01#8, 0x03#8, 0x00#8, 0x68#8, 0x00#8]⟩ =
    .ok (.masterSendAsync 0x0100#16 3#16 0x68#8 false, []) ∧
  decode ⟨.hostcmd, false, [0xD#8, 0x01#8]⟩ = .ok (.slaveReadByte true, []) ∧
  decode ⟨.cr, false, [0xA5#8]⟩ = .ok (.cmdStart false true, []) ∧
  decode ⟨.cr, false, [0xD4#8]⟩ = .ok (.cmdStop true false, []) ∧
  decode ⟨.addrbyte, false, [0xD1#8]⟩ = .ok (.addrByte 0x68#7 .read, []) ∧
  decode ⟨.event, false, [0x8#8]⟩ = .ok (.evDataReq, []) ∧
  decode ⟨.error, false, [0x2#8]⟩ = .ok (.errAddrNack, [])

/-- R94: the code is `SR[7:3]`; two status register words that agree in those bits select the same arm. -/
def Obligations.StatusIsTopFiveBits : Prop :=
  (∀ w : Byte, (codeOf w).toNat = w.toNat / 8) ∧
  ∀ (w : Byte) (bytesRemain : Bool) (rest : List Byte),
    decode ⟨.status, bytesRemain, w :: rest⟩ = decode ⟨.status, bytesRemain, (w &&& 0xF8#8) :: rest⟩

/-- R96: the address byte: the address in bits 7:1, the direction in bit 0; the examples of P6; and a command word with an
address operand above 0x7F is refused, whichever operation it belongs to. The model's choices in the last clause: `own_addr`
of `Init` is such an operand (log entry 20), and the port refuses the word before it looks at the state, also with
`CR.EN = 0` (log entries 13 and 22). -/
def Obligations.AddressByte : Prop :=
  (∀ a : Addr7, (addrByteOf a .write).toNat = 2 * a.toNat ∧ (addrByteOf a .read).toNat = 2 * a.toNat + 1) ∧
  addrByteOf 0x68#7 .write = 0xD0#8 ∧ addrByteOf 0x68#7 .read = 0xD1#8 ∧
  (∀ (i : Instr) (a : Byte), 0x7F < a.toNat →
    (∃ speed r, i = .init speed a r) ∨ (∃ d, i = .addressTx a d) ∨
      (∃ p n rep, i = .masterSend p n a rep ∨ i = .masterReceive p n a rep ∨ i = .masterSendAsync p n a rep ∨
        i = .masterReceiveAsync p n a rep) →
    decode (encode i) = .error .addressRange ∧
      ∀ s : State, issueWord (encode i).bytes s = .refused .addressRange)

/-! ### The handler's dispatch and the step -/

/-- R166: the arm that `SR.code` selects, for every one of the 32 codes. -/
def Obligations.HandlerDispatch : Prop :=
  ∀ s : State,
    (s.sr.code = 0b00000#5 → s.fetchArm = .stBusError) ∧
    (s.sr.code = 0b00001#5 → s.fetchArm = .stStart) ∧
    (s.sr.code = 0b00010#5 → s.fetchArm = .stRstart) ∧
    (s.sr.code = 0b00011#5 → s.fetchArm = .stSlawAck) ∧
    (s.sr.code = 0b00100#5 → s.fetchArm = .stSlawNack) ∧
    (s.sr.code = 0b00101#5 ∧ s.inst.txLen ≠ 0#16 → s.fetchArm = .stTxdAckMore) ∧
    (s.sr.code = 0b00101#5 ∧ s.inst.txLen = 0#16 → s.fetchArm = .stTxdAckLast) ∧
    (s.sr.code = 0b00110#5 → s.fetchArm = .stTxdNack) ∧
    (s.sr.code = 0b00111#5 → s.fetchArm = .stArbLost) ∧
    (s.sr.code = 0b01000#5 → s.fetchArm = .stSlarAck) ∧
    (s.sr.code = 0b01001#5 → s.fetchArm = .stSlarNack) ∧
    (s.sr.code = 0b01010#5 → s.fetchArm = .stRxdAck) ∧
    (s.sr.code = 0b01011#5 → s.fetchArm = .stRxdNack) ∧
    (s.sr.code = 0b01100#5 → s.fetchArm = .ssSlawAck) ∧
    (s.sr.code = 0b01101#5 → s.fetchArm = .ssArbSlaw) ∧
    (s.sr.code = 0b01110#5 → s.fetchArm = .ssGcall) ∧
    (s.sr.code = 0b01111#5 → s.fetchArm = .ssArbGcall) ∧
    (s.sr.code = 0b10000#5 → s.fetchArm = .ssRxdAck) ∧
    (s.sr.code = 0b10001#5 → s.fetchArm = .ssRxdNack) ∧
    (s.sr.code = 0b10010#5 → s.fetchArm = .ssGcRxdAck) ∧
    (s.sr.code = 0b10011#5 → s.fetchArm = .ssGcRxdNack) ∧
    (s.sr.code = 0b10100#5 → s.fetchArm = .ssStopRs) ∧
    (s.sr.code = 0b10101#5 → s.fetchArm = .ssSlarAck) ∧
    (s.sr.code = 0b10110#5 → s.fetchArm = .ssArbSlar) ∧
    (s.sr.code = 0b10111#5 → s.fetchArm = .ssTxdAck) ∧
    (s.sr.code = 0b11000#5 → s.fetchArm = .ssTxdNack) ∧
    (s.sr.code = 0b11001#5 → s.fetchArm = .ssTxlastAck) ∧
    (s.sr.code = 0b11010#5 → s.fetchArm = .unassignedD0) ∧
    (s.sr.code = 0b11011#5 → s.fetchArm = .unassignedD8) ∧
    (s.sr.code = 0b11100#5 → s.fetchArm = .unassignedE0) ∧
    (s.sr.code = 0b11101#5 → s.fetchArm = .unassignedE8) ∧
    (s.sr.code = 0b11110#5 → s.fetchArm = .unassignedF0) ∧
    (s.sr.code = 0b11111#5 → s.fetchArm = .stNoInfo)

/-- R272, R274, R275: with no reset coming and the block not halted, a step is a handler invocation exactly when the
interrupt condition holds; the invocation is the arm that the decoder reads from SR, between `in_handler <- true` and
`in_handler <- false`, and saves and restores nothing else. Otherwise the step is HOST's or ENV's
(`Obligations.AgentMoves`). R278: while halted no agent steps: only a turn laid down is used up. The model's choice (log
entry 9): the handler comes before HOST and ENV. -/
def Obligations.StepRunsHandlerArm : Prop :=
  ∀ s : State, ResetNotNext s →
    (s.halted = true → step s = .next { s with turns := s.turns.tail }) ∧
    (s.halted = false → s.cr.int = true ∧ s.cr.ie = true ∧ s.gie = true ∧ s.inHandler = false →
      decode ⟨.status, decide (s.inst.txLen ≠ 0#16), [s.sr.word]⟩ = .ok (s.fetchArm, []) ∧
      step s = andThen (exec s.fetchArm { s with inHandler := true }) fun t => .next { t with inHandler := false }) ∧
    (s.halted = false → s.cr.int = false ∨ s.cr.ie = false ∨ s.gie = false ∨ s.inHandler = true →
      s.portWord = none → step s = agentMove s)

/-- R107, R10: a word on the host command port that decodes to an instruction is run by the step: HOST idle, its turn next
(by `turns`, or by the eager schedule with nothing for ENV to complete). Nothing else of the state changes first. A word
the decoder rejects is refused: the model's choice of names (log entry 22) but for an address above 0x7F (R96). Bytes after the
last operand (`rest`) are dropped, the model's choice (log entry 6). The last clause is the model's too (log entry 1): a
control word laid on the register port from outside the block is run. -/
def Obligations.StepRunsIssuedCommand : Prop :=
  (∀ (s : State) (bytes : List Byte) (moves : List AppMove) (turns : List Turn), AgentsMove s →
    s.host = .idle → s.app = .command bytes :: moves →
    (∀ (i : Instr) (rest : List Byte), decode ⟨.hostcmd, false, bytes⟩ = .ok (i, rest) →
      (s.turns = .host :: turns → step s = exec i { s with app := moves, turns := turns }) ∧
      (s.turns = [] ∧ (s.env.pend = .none ∨ s.envMoves = []) → step s = exec i { s with app := moves })) ∧
    (∀ e : DecodeError, decode ⟨.hostcmd, false, bytes⟩ = .error e →
      s.turns = .host :: turns ∨ s.turns = [] ∧ (s.env.pend = .none ∨ s.envMoves = []) →
      step s = .refused (if e = .addressRange then .addressRange else .malformedWord e))) ∧
  (∀ (s : State) (bytes : List Byte), ResetNotNext s → s.halted = false →
    s.cr.int = false ∨ s.cr.ie = false ∨ s.gie = false ∨ s.inHandler = true → s.portWord = some bytes →
    (∀ (i : Instr) (rest : List Byte), decode ⟨.cr, false, bytes⟩ = .ok (i, rest) →
      step s = exec i { s with portWord := none }) ∧
    (∀ e : DecodeError, decode ⟨.cr, false, bytes⟩ = .error e → step s = .refused (.malformedWord e)))

/-- R10, R43, R69, R111, R131: when HOST or ENV moves, whose move the step is: as `turns` says; with nothing there, by the
eager schedule of R80, ENV while something is in flight and it has a move (the model's choice: log entry 9). ENV's step is
its next move (`Obligations.EnvMasterCompletions` and the statements after it say what that does). An idle HOST's is the
application's next move: a command (`Obligations.StepRunsIssuedCommand`), a write to a buffer byte, the global interrupt
enable, or polling for READY. A held HOST's is a poll that changes nothing while `CR.INT = 0`; what it does once
`CR.INT = 1` the statements about the primitives and the transactor say. -/
def Obligations.AgentMoves : Prop :=
  (∀ s : State, AgentsMove s →
    (∀ turns : List Turn, s.turns = .host :: turns → step s = hostTurn { s with turns := turns }) ∧
    (∀ (turns : List Turn) (m : EnvMove) (moves : List EnvMove), s.turns = .env :: turns → s.envMoves = m :: moves →
      step s = .next (envStep m { s with turns := turns, envMoves := moves })) ∧
    (∀ turns : List Turn, s.turns = .env :: turns → s.envMoves = [] → step s = .next { s with turns := turns }) ∧
    (∀ (m : EnvMove) (moves : List EnvMove), s.turns = [] → s.env.pend ≠ .none → s.envMoves = m :: moves →
      step s = .next (envStep m { s with envMoves := moves })) ∧
    (s.turns = [] → s.env.pend = .none ∨ s.envMoves = [] → step s = hostTurn s)) ∧
  (∀ (s : State) (moves : List AppMove), s.host = .idle →
    (∀ (p : Ptr) (b : Byte), s.app = .store p b :: moves →
      hostTurn s = .next { s with app := moves, mem := s.mem.write p.toNat b }) ∧
    (∀ b : Bool, s.app = .setGie b :: moves → hostTurn s = .next { s with app := moves, gie := b }) ∧
    (s.app = .waitReady :: moves ∧ s.inst.state = .ready → hostTurn s = .next { s with app := moves }) ∧
    (s.app = .waitReady :: moves ∧ s.inst.state ≠ .ready → hostTurn s = .next s) ∧
    (s.app = [] → hostTurn s = .next s)) ∧
  (∀ s : State, s.host ≠ .idle → s.cr.int = false → hostTurn s = .next s)

/-- R131, R286: HOST in a busy-wait with nothing in flight and `CR.INT = 0` is stuck for good: whatever moves follow, no
number of steps without the reset input lets it past, or changes a register, Instance State or memory. -/
def Obligations.StuckHostNeverLeaves : Prop :=
  ∀ (n : Nat) (s : State), s.host ≠ .idle → s.cr.int = false → s.env.pend = .none → s.env.stopFirst = false →
    s.portWord = none → NoReset s →
    ∃ t : State, Host.Core.run Sys2Proof.core n s = .next t ∧ t.host = s.host ∧ t.cr = s.cr ∧ t.sr = s.sr ∧
      t.dr = s.dr ∧ t.ar = s.ar ∧ t.amr = s.amr ∧ t.br = s.br ∧ t.inst = s.inst ∧ t.mem = s.mem ∧ t.events = s.events ∧ t.errors = s.errors ∧ t.wire = s.wire

/-! ### Reset and the invariant -/

/-- R45, R46: the values the spec gives for reset; the six registers read whole. -/
def Obligations.ResetLeavesSpecifiedValues : Prop :=
  State.reset.inst.cfg.speed = 0#32 ∧ State.reset.inst.cfg.ownAddr = 0#7 ∧ State.reset.inst.cfg.role = .master ∧
  State.reset.inst.pTx = 0#16 ∧ State.reset.inst.pRx = 0#16 ∧
  State.reset.inst.txLen = 0#16 ∧ State.reset.inst.rxLen = 0#16 ∧
  State.reset.inst.state = .ready ∧ State.reset.inst.devAddr = 0#7 ∧ State.reset.inst.rep = false ∧
  State.reset.readReg .cr = 0x00#8 ∧ State.reset.readReg .sr = 0xF8#8 ∧ State.reset.readReg .dr = 0xFF#8 ∧
  State.reset.readReg .ar = 0xFE#8 ∧ State.reset.readReg .amr = 0x00#8 ∧ State.reset.readReg .br = 0x00#8

/-- R47, R300 to R302: the reset input, from any state: every register, the hidden state and the observation at their
reset values. The model's choice (log entries 7 and 9): `gie` and the buffer memory, which reset leaves open, are what the
input brings; what the outside world does next, and the two switches of R5, stay. -/
def Obligations.ResetInputRestoresState : Prop :=
  ∀ (s : State) (gie : Bool) (image : List (Ptr × Byte)) (turns : List Turn), s.turns = .rst gie image :: turns →
    step s = .next
      { State.reset with
        gie := gie, mem := Memory.load image, params := s.params
        app := s.app, callbacks := s.callbacks, envMoves := s.envMoves, turns := turns }

/-- The invariant holds after reset. -/
def Obligations.ResetSatisfiesInvariant : Prop := Inv State.reset

/-- R29, R235, R150, R274, R325: every step keeps the invariant, whatever instruction, callback, ENV answer or reset it runs.
The pointer of a BUSY side is claimed to be non-null only while its length is above 0 (log entry 24). -/
def Obligations.StepKeepsInvariant : Prop :=
  ∀ s t : State, Inv s → step s = .next t → Inv t

/-- R60: a byte written is read back; every other byte reads as before; the canonical form is kept. -/
def Obligations.MemoryWriteThenRead : Prop :=
  ∀ (m : Memory) (p q : Ptr) (v : Byte), m.wf = true →
    (m.write p.toNat v).read q.toNat = (if q = p then v else m.read q.toNat) ∧ (m.write p.toNat v).wf = true

/-! ### Controller commands -/

/-- R99 to R104: a controller command is one write of CR: INT cleared, EN set, WC as it was, STA and STO as the command
asks and 0 otherwise, EA and IE kept but for the command that changes them; and the activity it puts in flight. The word
written is `0x80 | EA << 6 | STA << 5 | STO << 4 | 0x04 | IE`. R78 and the model's choice (log entry 16): a STOP still in
flight goes out first, whatever the command (R78 says so of a START); whether a STOP goes on the wire is settled when it is
commanded, by the code and the role of that moment. R136: whether a STOP has been commanded since the last START. -/
def Obligations.ControllerCommands : Prop :=
  (∀ (s : State) (ea sta sto ie : Bool) (p : Pending),
    s.command ea sta sto ie p =
      { s with
        cr := { int := false, ea := ea, sta := sta, sto := sto, wc := s.cr.wc, en := true, ie := ie }
        env :=
          { pend := p, busOwned := s.env.busOwned
            stopFirst := s.env.stopFirst || decide (s.env.pend = .stop)
            stopSilent :=
              if p = .stop then decide (s.sr.code = Status.busError ∨ s.inst.cfg.role = .slave)
              else s.env.stopSilent
            stopGiven :=
              match p with
              | .stop => true
              | .start => false
              | _ => s.env.stopGiven } } ∧
    (commandWord ea sta sto ie).toNat =
      0x80 + ea.toNat * 64 + sta.toNat * 32 + sto.toNat * 16 + 0x04 + ie.toNat) ∧
  (∀ (s : State) (b : Bool), cmdStart b s = s.command s.cr.ea true false (b || s.cr.ie) .start) ∧
  (∀ (s : State) (b : Byte),
    (s.cr.int = true → cmdXmit b s = .next ({ s with dr := b }.command s.cr.ea false false s.cr.ie (.tx b))) ∧
    (s.cr.int = false → cmdXmit b s = .fault .writeCollision)) ∧
  (∀ (s : State) (k : Bool), cmdArm k s = s.command k false false s.cr.ie .rx) ∧
  (∀ s : State, cmdStop s = s.command s.cr.ea false true s.cr.ie .stop) ∧
  (∀ s : State, cmdRearm s = s.command s.cr.ea false false s.cr.ie .listen)

/-- The rows of formats CR and ADDRBYTE run, from every state; the two that write DR while `CR.INT = 1`, else the write
collides (R36, R101). EA and IE are those of the control word written (the model's choice: log entry 1); each command of
the block is its row with the bits of the register (the last clauses), and the address byte of `address_tx` and of the
START arms is the row of format ADDRBYTE (log entry 17). -/
def Obligations.CommandRows : Prop :=
  ∀ s : State,
    (∀ ea ie : Bool, exec (.cmdStart ea ie) s = .next (s.command ea true false ie .start)) ∧
    (∀ ea ie : Bool, exec (.cmdStop ea ie) s = .next (s.command ea false true ie .stop)) ∧
    (∀ ack ie : Bool, exec (.cmdArm ack ie) s = .next (s.command ack false false ie .rx)) ∧
    (∀ ea ie : Bool, exec (.cmdRearm ea ie) s = .next (s.command ea false false ie .listen)) ∧
    (s.cr.int = true → ∀ (ea ie : Bool) (b : Byte),
      exec (.cmdXmit ea ie b) s = .next ({ s with dr := b }.command ea false false ie (.tx b))) ∧
    (s.cr.int = true → ∀ (a : Addr7) (d : Dir),
      exec (.addrByte a d) s =
        .next ({ s with dr := addrByteOf a d }.command s.cr.ea false false s.cr.ie (.tx (addrByteOf a d)))) ∧
    (s.cr.int = false →
      (∀ (ea ie : Bool) (b : Byte), exec (.cmdXmit ea ie b) s = .fault .writeCollision) ∧
      ∀ (a : Addr7) (d : Dir), exec (.addrByte a d) s = .fault .writeCollision) ∧
    (∀ b : Bool, .next (cmdStart b s) = exec (.cmdStart s.cr.ea (b || s.cr.ie)) s) ∧
    (∀ b : Byte, cmdXmit b s = exec (.cmdXmit s.cr.ea s.cr.ie b) s) ∧
    (∀ k : Bool, .next (cmdArm k s) = exec (.cmdArm k s.cr.ie) s) ∧
    .next (cmdStop s) = exec (.cmdStop s.cr.ea s.cr.ie) s ∧
    .next (cmdRearm s) = exec (.cmdRearm s.cr.ea s.cr.ie) s

/-! ### Init -/

/-- R260, R261, R262: `Init` in both roles: the configuration, the prescaler, BR, AR and CR as given; CR.INT, CR.WC and
everything else stay. R265: it is refused while the instance is busy or its interrupt enabled. The model's choices: an
own address above 0x7F is refused, after that check (log entries 13 and 20; on the port such a word is refused at once:
`Obligations.AddressByte`); a STOP in flight stays to go out, in the slave role before the listening (log entries 16 and
20); `seq` stays (log entry 15). -/
def Obligations.Init : Prop :=
  ∀ (s : State) (speed : BitVec 32) (a : Byte),
    (s.inst.state = .ready ∧ s.cr.ie = false ∧ a.toNat ≤ 0x7F →
      exec (.init speed a .master) s = .next
        { s with
          inst := { s.inst with cfg := { speed := speed, ownAddr := a.setWidth 7, role := .master } }
          sr := { s.sr with ps := 0b00#2 }
          br := Config.brr speed Config.fClk
          ar := a <<< 1
          cr :=
            { int := s.cr.int, ea := false, sta := false, sto := false, wc := s.cr.wc, en := true, ie := false } } ∧
      exec (.init speed a .slave) s = .next
        { s with
          inst := { s.inst with cfg := { speed := speed, ownAddr := a.setWidth 7, role := .slave } }
          sr := { s.sr with ps := 0b00#2 }
          br := Config.brr speed Config.fClk
          ar := a <<< 1
          cr := { int := s.cr.int, ea := true, sta := false, sto := false, wc := s.cr.wc, en := true, ie := true }
          env :=
            { s.env with pend := .listen, stopFirst := s.env.stopFirst || decide (s.env.pend = .stop) } }) ∧
    (∀ r : Role,
      (s.inst.state ≠ .ready ∨ s.cr.ie = true → exec (.init speed a r) s = .refused .initWhileActive) ∧
      (s.inst.state = .ready ∧ s.cr.ie = false ∧ 0x7F < a.toNat → exec (.init speed a r) s = .refused .addressRange))

/-! ### Bus primitives -/

/-- R132: `start_condition` issues START and holds HOST; once `CR.INT = 1` it returns whether the code is START-sent or
repeated-START-sent. Where the order of primitives then stands is `Obligations.PrimitiveOrder`. -/
def Obligations.StartCondition : Prop :=
  (∀ s : State, BlockingAllowed s → s.seq ≠ .started →
    exec .startCondition s =
      .next { s.command s.cr.ea true false s.cr.ie .start with host := .startWait }) ∧
  (∀ s : State, s.host = .startWait → s.cr.int = true →
    (s.sr.code = Status.start ∨ s.sr.code = Status.rstart →
      ∃ q : HostSeq, hostTurn s = .next { s with ret := some (.bool true), host := .idle, seq := q }) ∧
    (s.sr.code ≠ Status.start ∧ s.sr.code ≠ Status.rstart →
      ∃ q : HostSeq, hostTurn s = .next { s with ret := some (.bool false), host := .idle, seq := q }))

/-- R133: `address_tx` writes the address byte and holds HOST; once `CR.INT = 1` it returns whether the acknowledge code of
its own direction was seen, and of no other. With `CR.INT = 0` the data register write collides. -/
def Obligations.AddressTx : Prop :=
  (∀ (s : State) (a : Byte) (d : Dir), BlockingAllowed s → a.toNat ≤ 0x7F → s.seq = .started →
    (s.cr.int = true → exec (.addressTx a d) s = .next
      { { s with dr := addrByteOf (a.setWidth 7) d }.command s.cr.ea false false s.cr.ie
          (.tx (addrByteOf (a.setWidth 7) d)) with
        host := .addressWait d }) ∧
    (s.cr.int = false → exec (.addressTx a d) s = .fault .writeCollision)) ∧
  (∀ (s : State) (d : Dir), s.host = .addressWait d → s.cr.int = true →
    (s.sr.code = (match d with | .write => Status.slawAck | .read => Status.slarAck) →
      ∃ q : HostSeq, hostTurn s = .next { s with ret := some (.bool true), host := .idle, seq := q }) ∧
    (s.sr.code ≠ (match d with | .write => Status.slawAck | .read => Status.slarAck) →
      ∃ q : HostSeq, hostTurn s = .next { s with ret := some (.bool false), host := .idle, seq := q }))

/-- R134: `byte_write` writes the byte and holds HOST; once `CR.INT = 1` it returns whether the code is ST_TXD_ACK.
Before a completion the data register write collides. -/
def Obligations.ByteWrite : Prop :=
  (∀ (s : State) (b : Byte), BlockingAllowed s → s.seq = .writing →
    (s.cr.int = true → exec (.byteWrite b) s =
      .next { { s with dr := b }.command s.cr.ea false false s.cr.ie (.tx b) with host := .writeWait }) ∧
    (s.cr.int = false → exec (.byteWrite b) s = .fault .writeCollision)) ∧
  (∀ s : State, s.host = .writeWait → s.cr.int = true →
    hostTurn s = .next { s with ret := some (.bool (decide (s.sr.code = Status.txdAck))), host := .idle })

/-- R135: `byte_read_ack_nack` writes EA with the operand and holds HOST; once `CR.INT = 1` it returns DR, whatever the
code. Outside the controller's master-receive phase it is refused. -/
def Obligations.ByteReadAckNack : Prop :=
  (∀ (s : State) (k : Bool), BlockingAllowed s →
    (s.seq = .reading → s.sr.code = Status.slarAck ∨ s.sr.code = Status.rxdAck → ∃ q : HostSeq,
      exec (.byteReadAckNack k) s = .next { s.command k false false s.cr.ie .rx with host := .readWait, seq := q }) ∧
    (s.sr.code ≠ Status.slarAck → s.sr.code ≠ Status.rxdAck →
      exec (.byteReadAckNack k) s = .refused .outOfSequence)) ∧
  (∀ s : State, s.host = .readWait → s.cr.int = true →
    hostTurn s = .next { s with ret := some (.byte s.dr), host := .idle })

/-- R136: `stop_condition` issues STOP and does not wait: HOST stays idle. With the bus not owned, or a STOP
commanded since the last START (whatever became of it), it is refused. -/
def Obligations.StopCondition : Prop :=
  ∀ s : State, BlockingAllowed s →
    (s.env.busOwned = true → s.env.stopGiven = false → s.seq ≠ .started → s.seq ≠ .startFailed →
      ∃ q : HostSeq, exec .stopCondition s = .next { s.command s.cr.ea false true s.cr.ie .stop with seq := q }) ∧
    (s.env.busOwned = false ∨ s.env.stopGiven = true → exec .stopCondition s = .refused .outOfSequence)

/-- R137, R135, R136, R317, R318: a primitive out of its order is refused, a blocking transaction too where its START is out
of order; what each answer opens: after a START that returned false neither an address nor STOP, after a read with
`sendAck = false` no further read, STOP after either kind of read and once after a START. The model's choices: the order
is followed in `seq`, a START may follow one that returned false, a blocking transaction, an accepted asynchronous entry
point and STOP end the order under way, and `Init` leaves it (log entry 15); operands (R96, R63, R43) are looked at
before the order (log entry 13). -/
def Obligations.PrimitiveOrder : Prop :=
  (∀ s t : State, s.cr.int = true → hostTurn s = .next t →
    (s.host = .startWait →
      t.seq = if s.sr.code = Status.start ∨ s.sr.code = Status.rstart then .started else .startFailed) ∧
    (s.host = .addressWait .write → t.seq = if s.sr.code = Status.slawAck then .writing else .closed) ∧
    (s.host = .addressWait .read → t.seq = if s.sr.code = Status.slarAck then .reading else .closed) ∧
    (s.host = .writeWait ∨ s.host = .readWait → t.seq = s.seq)) ∧
  (∀ s t : State, exec .stopCondition s = .next t → t.seq = .closed) ∧
  (∀ (s t : State) (k : Bool), exec (.byteReadAckNack k) s = .next t → t.seq = if k then .reading else .readDone) ∧
  (∀ (s t : State) (i : Instr) (buf : Ptr) (len : Len) (a : Byte) (rep : Bool),
    (i = .masterSendAsync buf len a rep ∨ i = .masterReceiveAsync buf len a rep → exec i s = .next t →
      t.seq = if s.inst.state = .ready ∧ len ≠ 0#16 then .closed else s.seq) ∧
    (i = .masterSend buf len a rep ∨ i = .masterReceive buf len a rep → exec i s = .next t → t.seq = .closed) ∧
    (∀ (speed : BitVec 32) (role : Role), exec (.init speed a role) s = .next t → t.seq = s.seq)) ∧
  ∀ s : State, BlockingAllowed s →
    (s.seq = .started → exec .startCondition s = .refused .outOfSequence) ∧
    (∀ (buf : Ptr) (len : Len) (a : Byte) (rep : Bool), s.seq = .started → a.toNat ≤ 0x7F → BufferFits buf len →
      exec (.masterSend buf len a rep) s = .refused .outOfSequence ∧
      exec (.masterReceive buf len a rep) s = .refused .outOfSequence) ∧
    (∀ (a : Byte) (d : Dir), 0x7F < a.toNat → exec (.addressTx a d) s = .refused .addressRange) ∧
    (∀ (a : Byte) (d : Dir), a.toNat ≤ 0x7F → s.seq ≠ .started →
      exec (.addressTx a d) s = .refused .outOfSequence) ∧
    (∀ b : Byte, s.seq ≠ .writing → exec (.byteWrite b) s = .refused .outOfSequence) ∧
    (∀ k : Bool, s.seq ≠ .reading ∨ s.sr.code ≠ Status.slarAck ∧ s.sr.code ≠ Status.rxdAck →
      exec (.byteReadAckNack k) s = .refused .outOfSequence) ∧
    (s.env.busOwned = false ∨ s.env.stopGiven = true ∨ s.seq = .started ∨ s.seq = .startFailed →
      exec .stopCondition s = .refused .outOfSequence)

/-- R37, R277, R248, R150, R130: when the seven blocking operations are refused, and with which reason. The model's choice
(log entry 13): which reason where several hold. -/
def Obligations.BlockingOperationsRefused : Prop :=
  ∀ (s : State) (i : Instr),
    (i = .startCondition ∨ (∃ a d, i = .addressTx a d) ∨ (∃ b, i = .byteWrite b) ∨ (∃ k, i = .byteReadAckNack k) ∨
      i = .stopCondition ∨ (∃ p n a r, i = .masterSend p n a r) ∨ (∃ p n a r, i = .masterReceive p n a r)) →
    (s.cr.en = false → exec i s = .refused .notEnabled) ∧
    (s.cr.en = true ∧ (s.inHandler = true ∨ s.delivering ≠ none) → exec i s = .refused .blockingInHandler) ∧
    (s.cr.en = true ∧ s.inHandler = false ∧ s.delivering = none ∧ s.inst.cfg.role = .slave →
      exec i s = .refused .roleMismatch) ∧
    (s.cr.en = true ∧ s.inHandler = false ∧ s.delivering = none ∧ s.inst.cfg.role = .master ∧ s.inst.state ≠ .ready →
      exec i s = .refused .blockingWhileBusy) ∧
    (s.cr.en = true ∧ s.inHandler = false ∧ s.delivering = none ∧ s.inst.cfg.role = .master ∧ s.inst.state = .ready ∧
        s.cr.ie = true ∧ s.gie = true →
      exec i s = .refused .interruptEnabledInBlockingPath)

/-! ### The blocking transactor -/

/-- R150, R151, R152: `MasterSend` and `MasterReceive` begin with START and hold HOST; Instance State is untouched. Operands
that are refused: an address above 0x7F (R96), a null or wrapping buffer (R63), one with a byte at a register's address
(R43). Where a START waits for its address they are out of order (R137): `Obligations.PrimitiveOrder`. The model's choices:
a length of 0 is admitted (log entry 14); the buffer checks apply to blocking transactions too and an empty buffer passes
whatever its pointer (log entry 19); the order of the refusals (log entry 13); `seq` (log entry 15). -/
def Obligations.BlockingTransactionsStart : Prop :=
  ∀ (s : State) (i : Instr) (buf : Ptr) (len : Len) (a : Byte) (rep : Bool), BlockingAllowed s →
    (a.toNat ≤ 0x7F → BufferFits buf len → s.seq ≠ .started →
      exec (.masterSend buf len a rep) s = .next
        { s.command s.cr.ea true false s.cr.ie .start with
          host := .sendStart buf len (a.setWidth 7) rep, seq := .closed } ∧
      exec (.masterReceive buf len a rep) s = .next
        { s.command s.cr.ea true false s.cr.ie .start with
          host := .receiveStart buf len (a.setWidth 7) rep, seq := .closed }) ∧
    (i = .masterSend buf len a rep ∨ i = .masterReceive buf len a rep →
      (0x7F < a.toNat → exec i s = .refused .addressRange) ∧
      (a.toNat ≤ 0x7F ∧ len ≠ 0#16 ∧ (buf = 0#16 ∨ 65536 < buf.toNat + len.toNat) →
        exec i s = .refused .bufferRange) ∧
      (a.toNat ≤ 0x7F ∧ buf ≠ 0#16 ∧ buf.toNat + len.toNat ≤ 65536 ∧
          (∃ r : Reg, buf.toNat ≤ r.address ∧ r.address < buf.toNat + len.toNat) →
        exec i s = .refused .bufferOverlapsRegisters))

/-- R151, R190 of the blocking kind: `MasterSend` run to its end against a slave that acknowledges its address and answers
the `len` data bytes as listed, ACK or NACK: START (repeated START if the bus was owned), the address byte, every byte of
the buffer in ascending order whatever the answers, STOP unless a repeated start was asked for; two steps for each of the
`len + 2` waits. Instance State, memory and the event and error lists are as before, HOST is idle again. The premise on the
buffer is the model's (log entry 19); that a length of 0 is admitted is R151 taken literally (log entry 14). No START waits
for its address at the beginning (R137, `seq`: log entry 15). -/
def Obligations.BlockingSendRun : Prop :=
  ∀ (s : State) (buf : Ptr) (len : Len) (a : Byte) (rep : Bool) (acks : List Bool) (more : List EnvMove),
    Poised s (encode (.masterSend buf len a rep)).bytes
      (acknowledging 2 ++ answering acks ++ (if rep then [] else acknowledging 1) ++ more) →
    s.seq ≠ .started → a.toNat ≤ 0x7F → BufferFits buf len → acks.length = len.toNat →
    ∃ t : State,
      Host.Core.run Sys2Proof.core (1 + 2 * (len.toNat + 2) + (if rep then 0 else 1)) s = .next t ∧
      t.wire = s.wire ++
        [if s.env.busOwned then .rstart else .start, .tx (addrByteOf (a.setWidth 7) .write) true] ++
        List.zipWith WireItem.tx (bufferBytes s.mem buf.toNat len.toNat) acks ++ (if rep then [] else [.stop]) ∧
      t.env.busOwned = rep ∧ t.cr.int = rep ∧ t.cr.ie = false ∧ t.host = .idle ∧ t.app = [] ∧ t.envMoves = more ∧
      t.inst = s.inst ∧ t.mem = s.mem ∧ t.events = s.events ∧ t.errors = s.errors ∧ t.halted = false

/-- R152, P3 (R216 of the blocking kind): `MasterReceive` run to its end against a slave that yields the listed bytes: ACK
for all but the last, NACK for the last, each byte stored in ascending order, every other byte of memory as before. The
model's choices: a receive of length 0 is taken literally and not refused (log entry 14, unsafe); the premise on the buffer
(log entry 19). No START waits for its address at the beginning (R137, `seq`: log entry 15). -/
def Obligations.BlockingReceiveRun : Prop :=
  ∀ (s : State) (buf : Ptr) (len : Len) (a : Byte) (rep : Bool) (bytes : List Byte) (more : List EnvMove),
    Poised s (encode (.masterReceive buf len a rep)).bytes
      (acknowledging 2 ++ yielding bytes ++ (if rep then [] else acknowledging 1) ++ more) →
    s.seq ≠ .started → s.mem.wf = true → a.toNat ≤ 0x7F → BufferFits buf len → bytes.length = len.toNat →
    ∃ t : State,
      Host.Core.run Sys2Proof.core (1 + 2 * (len.toNat + 2) + (if rep then 0 else 1)) s = .next t ∧
      t.wire = s.wire ++
        [if s.env.busOwned then .rstart else .start, .tx (addrByteOf (a.setWidth 7) .read) true] ++
        bytes.mapIdx (fun k b => WireItem.rx b (decide (k + 1 < bytes.length))) ++
        (if rep then [] else [.stop]) ∧
      bufferBytes t.mem buf.toNat len.toNat = bytes ∧
      (∀ k : Nat, k < buf.toNat ∨ buf.toNat + len.toNat ≤ k → t.mem.read k = s.mem.read k) ∧
      t.env.busOwned = rep ∧ t.cr.int = rep ∧ t.cr.ie = false ∧ t.host = .idle ∧ t.app = [] ∧ t.envMoves = more ∧
      t.inst = s.inst ∧ t.events = s.events ∧ t.errors = s.errors ∧ t.halted = false

/-- R151, R152, R278: a failed START or address phase of a blocking transaction raises the error, issues no command, and
halts the block unless the error handler returns. After a failed START neither an address nor STOP may follow (R317), which
the model keeps in `seq` (log entry 15). -/
def Obligations.BlockingFailures : Prop :=
  ∀ (s : State) (buf : Ptr) (len : Len) (a : Addr7) (rep : Bool), s.cr.int = true →
    (s.host = .sendStart buf len a rep ∨ s.host = .receiveStart buf len a rep →
      s.sr.code ≠ Status.start → s.sr.code ≠ Status.rstart →
      hostTurn s = .next
        { s with
          errors := s.errors ++ [.start], halted := s.halted || !s.params.errorHandlerReturns, host := .idle
          seq := .startFailed }) ∧
    (s.host = .sendAddress buf len rep ∧ s.sr.code ≠ Status.slawAck ∨
        s.host = .receiveAddress buf len rep ∧ s.sr.code ≠ Status.slarAck →
      hostTurn s = .next
        { s with
          errors := s.errors ++ [.addrNack], halted := s.halted || !s.params.errorHandlerReturns, host := .idle })

/-- R151, R152: what a held transactor does once `CR.INT = 1`: a START code is followed by the address byte, the ACK code of
the address by the first byte or the first arming, or with length 0 by the end. D30, D33: past the address phase the code
that answers a byte changes nothing: the next byte is sent, or stored and the next one armed, and the transaction ends,
whatever the code. -/
def Obligations.TransactorSteps : Prop :=
  ∀ (s : State) (buf : Ptr) (len : Len) (rep : Bool), s.cr.int = true →
    let ended : State := if rep then s else s.command s.cr.ea false true s.cr.ie .stop
    (∀ a : Addr7, s.sr.code = Status.start ∨ s.sr.code = Status.rstart →
      (s.host = .sendStart buf len a rep →
        hostTurn s = .next
          { { s with dr := addrByteOf a .write }.command s.cr.ea false false s.cr.ie (.tx (addrByteOf a .write)) with
            host := .sendAddress buf len rep }) ∧
      (s.host = .receiveStart buf len a rep →
        hostTurn s = .next
          { { s with dr := addrByteOf a .read }.command s.cr.ea false false s.cr.ie (.tx (addrByteOf a .read)) with
            host := .receiveAddress buf len rep })) ∧
    (s.host = .sendAddress buf len rep → s.sr.code = Status.slawAck →
      (len ≠ 0#16 → hostTurn s = .next
        { { s with dr := s.mem.read buf.toNat }.command s.cr.ea false false s.cr.ie (.tx (s.mem.read buf.toNat)) with
          host := .sendByte (buf + 1#16) (len - 1#16) rep }) ∧
      (len = 0#16 → hostTurn s = .next { ended with host := .idle })) ∧
    (s.host = .receiveAddress buf len rep → s.sr.code = Status.slarAck →
      (len ≠ 0#16 → hostTurn s = .next
        { s.command (decide (1 < len.toNat)) false false s.cr.ie .rx with host := .receiveByte buf len rep }) ∧
      (len = 0#16 → hostTurn s = .next { ended with host := .idle })) ∧
    (s.host = .sendByte buf len rep → len ≠ 0#16 →
      hostTurn s = .next
        { { s with dr := s.mem.read buf.toNat }.command s.cr.ea false false s.cr.ie (.tx (s.mem.read buf.toNat)) with
          host := .sendByte (buf + 1#16) (len - 1#16) rep }) ∧
    (s.host = .sendByte buf 0#16 true → hostTurn s = .next { s with host := .idle }) ∧
    (s.host = .sendByte buf 0#16 false →
      hostTurn s = .next { s.command s.cr.ea false true s.cr.ie .stop with host := .idle }) ∧
    (s.host = .receiveByte buf len rep → len ≠ 1#16 →
      hostTurn s = .next
        { { s with mem := s.mem.write buf.toNat s.dr }.command (decide (1 < (len - 1#16).toNat)) false false
            s.cr.ie .rx with
          host := .receiveByte (buf + 1#16) (len - 1#16) rep }) ∧
    (s.host = .receiveByte buf 1#16 true →
      hostTurn s = .next { s with mem := s.mem.write buf.toNat s.dr, host := .idle }) ∧
    (s.host = .receiveByte buf 1#16 false →
      hostTurn s = .next
        { { s with mem := s.mem.write buf.toNat s.dr }.command s.cr.ea false true s.cr.ie .stop with host := .idle })

/-! ### Asynchronous entry points and closes -/

/-- R185, R186, R210, R211: an asynchronous send or receive, accepted on a READY instance with a length above 0; and
ignored, with nothing changed, while BUSY or with length 0. (`seq`, the place in an order of primitives, is the model's own
field, log entry 15: `Obligations.PrimitiveOrder`.) -/
def Obligations.AsyncEntryPoints : Prop :=
  ∀ (s : State) (buf : Ptr) (len : Len) (a : Byte) (rep : Bool), EntryAllowed a s → buf ≠ 0#16 → BufferFits buf len →
    (s.inst.state ≠ .ready ∨ len = 0#16 →
      exec (.masterSendAsync buf len a rep) s = .next s ∧ exec (.masterReceiveAsync buf len a rep) s = .next s) ∧
    (s.inst.state = .ready → len ≠ 0#16 → ∃ q : HostSeq,
      exec (.masterSendAsync buf len a rep) s = .next
        { s.command s.cr.ea true false true .start with
          inst :=
            { s.inst with pTx := buf, txLen := len, devAddr := a.setWidth 7, rep := rep, state := .busyTx }
          dead := false, seq := q } ∧
      exec (.masterReceiveAsync buf len a rep) s = .next
        { s.command s.cr.ea true false true .start with
          inst :=
            { s.inst with pRx := buf, rxLen := len, devAddr := a.setWidth 7, rep := rep, state := .busyRx }
          dead := false, seq := q })

/-- R37, R248, R96, R63, R43, R64: when an entry point is refused, and with which reason; the register addresses a buffer may
not hold. The model's choice (log entry 13): which reason where several hold, and that the buffer of an ignored call is not
checked, whatever it is. -/
def Obligations.AsyncEntryRefused : Prop :=
  (Reg.address .br = 0xB8 ∧ Reg.address .sr = 0xB9 ∧ Reg.address .ar = 0xBA ∧ Reg.address .dr = 0xBB ∧
    Reg.address .cr = 0xBC ∧ Reg.address .amr = 0xBD) ∧
  ∀ (s : State) (i : Instr) (buf : Ptr) (len : Len) (a : Byte) (rep : Bool),
    i = .masterSendAsync buf len a rep ∨ i = .masterReceiveAsync buf len a rep →
    (s.cr.en = false → exec i s = .refused .notEnabled) ∧
    (s.cr.en = true ∧ s.inst.cfg.role = .slave → exec i s = .refused .roleMismatch) ∧
    (s.cr.en = true ∧ s.inst.cfg.role = .master ∧ 0x7F < a.toNat → exec i s = .refused .addressRange) ∧
    (EntryAllowed a s ∧ (s.inst.state ≠ .ready ∨ len = 0#16) → exec i s = .next s) ∧
    (EntryAllowed a s ∧ s.inst.state = .ready ∧ len ≠ 0#16 ∧ (buf = 0#16 ∨ 65536 < buf.toNat + len.toNat) →
      exec i s = .refused .bufferRange) ∧
    (EntryAllowed a s ∧ s.inst.state = .ready ∧ buf ≠ 0#16 ∧ buf.toNat + len.toNat ≤ 65536 ∧
        (∃ r : Reg, buf.toNat ≤ r.address ∧ r.address < buf.toNat + len.toNat) →
      exec i s = .refused .bufferOverlapsRegisters)

/-- R194, R219, R312: an explicit close, on READY in the master role or on its own dead side: IE cleared and no other bit
of CR, READY, its own pointer and length cleared; the address, the repeated-start flag and the other side stay. In every
other situation it is refused (R312, R37). The model's choice (log entry 13): which reason where several hold. -/
def Obligations.ExplicitClose : Prop :=
  ∀ s : State,
    (s.cr.en = true →
      (s.inst.state = .ready ∧ s.inst.cfg.role = .master ∨ s.inst.state = .busyTx ∧ s.dead = true →
        exec .closeSend s = .next
          { s with
            cr := { s.cr with ie := false }
            inst := { s.inst with state := .ready, pTx := 0#16, txLen := 0#16 }
            dead := false }) ∧
      (s.inst.state = .ready ∧ s.inst.cfg.role = .master ∨ s.inst.state = .busyRx ∧ s.dead = true →
        exec .closeReceive s = .next
          { s with
            cr := { s.cr with ie := false }
            inst := { s.inst with state := .ready, pRx := 0#16, rxLen := 0#16 }
            dead := false })) ∧
    (s.cr.en = false → exec .closeSend s = .refused .notEnabled ∧ exec .closeReceive s = .refused .notEnabled) ∧
    (s.cr.en = true ∧ s.inst.state = .ready ∧ s.inst.cfg.role = .slave →
      exec .closeSend s = .refused .roleMismatch ∧ exec .closeReceive s = .refused .roleMismatch) ∧
    (s.cr.en = true ∧ s.inst.state = .busyTx → exec .closeReceive s = .refused .closeWrongSide) ∧
    (s.cr.en = true ∧ s.inst.state = .busyRx → exec .closeSend s = .refused .closeWrongSide) ∧
    (s.cr.en = true ∧ s.inst.state = .busyTx ∧ s.dead = false →
      exec .closeSend s = .refused .liveTransactionMutation) ∧
    (s.cr.en = true ∧ s.inst.state = .busyRx ∧ s.dead = false →
      exec .closeReceive s = .refused .liveTransactionMutation)

/-- R194, R219 (P5): closing twice leaves the state identical to closing once, wherever the two calls stand. -/
def Obligations.CloseIsIdempotent : Prop :=
  ∀ s t : State, s.inst.cfg.role = .master →
    (exec .closeSend s = .next t → exec .closeSend t = .next t) ∧
    (exec .closeReceive s = .next t → exec .closeReceive t = .next t)

/-! ### Slave data operations, and the host opcodes that are none -/

/-- R243, R244, R37: the slave data operations inside the callback of their own event, while `CR.INT = 1`: the byte is
loaded and the controller released with EA and IE kept; DR is returned and the controller released with the operand in EA,
listening. Elsewhere they are refused, and a send with `CR.INT = 0` collides (R101). The model's choice (log entry 13):
NotEnabled before OutOfSequence. -/
def Obligations.SlaveDataOperations : Prop :=
  ∀ (s : State) (b : Byte) (k : Bool),
    (s.cr.en = true ∧ s.cr.int = true ∧ s.delivering = some .dataReq →
      exec (.slaveSendByte b) s = .next ({ s with dr := b }.command s.cr.ea false false s.cr.ie (.tx b))) ∧
    (s.cr.en = true ∧ s.cr.int = true ∧ s.delivering = some .dataRcv →
      exec (.slaveReadByte k) s =
        .next ({ s with ret := some (.byte s.dr) }.command k false false s.cr.ie .listen)) ∧
    (s.cr.en = false →
      exec (.slaveSendByte b) s = .refused .notEnabled ∧ exec (.slaveReadByte k) s = .refused .notEnabled) ∧
    (s.cr.en = true ∧ s.delivering ≠ some .dataReq → exec (.slaveSendByte b) s = .refused .outOfSequence) ∧
    (s.cr.en = true ∧ (s.delivering ≠ some .dataRcv ∨ s.cr.int = false) →
      exec (.slaveReadByte k) s = .refused .outOfSequence) ∧
    (s.cr.en = true ∧ s.cr.int = false ∧ s.delivering = some .dataReq →
      exec (.slaveSendByte b) s = .fault .writeCollision)

/-- R107: opcodes 0xE and 0xF are not operations. -/
def Obligations.UnknownCommandsRefused : Prop :=
  ∀ s : State, exec .unknownE s = .refused .unknownCommand ∧ exec .unknownF s = .refused .unknownCommand

/-! ### The master arms -/

/-- R168: START and repeated START: the address byte with the direction of the busy state; READY is spurious. -/
def Obligations.StartArms : Prop :=
  ∀ (s : State) (i : Instr), i = .stStart ∨ i = .stRstart →
    (s.inst.state = .busyTx ∧ s.cr.int = true →
      exec i s = .next ({ s with dr := addrByteOf s.inst.devAddr .write }.command s.cr.ea false false s.cr.ie
        (.tx (addrByteOf s.inst.devAddr .write)))) ∧
    (s.inst.state = .busyRx ∧ s.cr.int = true →
      exec i s = .next ({ s with dr := addrByteOf s.inst.devAddr .read }.command s.cr.ea false false s.cr.ie
        (.tx (addrByteOf s.inst.devAddr .read)))) ∧
    (s.inst.state = .ready → exec i s = .fault .spuriousStatus)

/-- R187, R189: the byte at `pTx` is handed over; the pointer advances modulo 2^16, the length decreases; no memory byte
changes. -/
def Obligations.HandOverArms : Prop :=
  ∀ (s : State) (i : Instr), i = .stSlawAck ∨ i = .stTxdAckMore →
    s.inst.state = .busyTx → s.inst.txLen ≠ 0#16 → s.inst.pTx ≠ 0#16 → s.cr.int = true →
    exec i s = .next
      { { s with dr := s.mem.read s.inst.pTx.toNat }.command s.cr.ea false false s.cr.ie
          (.tx (s.mem.read s.inst.pTx.toNat)) with
        inst := { s.inst with pTx := s.inst.pTx + 1#16, txLen := s.inst.txLen - 1#16 } }

/-- R188, R191, R192, R171: the endings of a transmit: STOP (always after an address NACK, else unless a repeated start was
asked for), IE cleared, READY, transmit pointer and length cleared, `EV_TX_CMPLT` delivered last (here to a callback that
does nothing; with any callback, what it leaves). -/
def Obligations.TransmitEndings : Prop :=
  ∀ s : State, s.inst.state = .busyTx →
    let stopped : State :=
      { s.command s.cr.ea false true false .stop with
        inst := { s.inst with state := .ready, pTx := 0#16, txLen := 0#16 }, dead := false }
    let held : State :=
      { s with
        cr := { s.cr with ie := false }
        inst := { s.inst with state := .ready, pTx := 0#16, txLen := 0#16 }, dead := false }
    exec .stSlawNack s = notify .txCmplt stopped ∧
    exec .stTxdNack s = notify .txCmplt (if s.inst.rep then held else stopped) ∧
    (s.inst.txLen = 0#16 → exec .stTxdAckLast s = notify .txCmplt (if s.inst.rep then held else stopped)) ∧
    (QuietCallback s →
      exec .stSlawNack s = .next (delivered .txCmplt stopped) ∧
      exec .stTxdNack s = .next (delivered .txCmplt (if s.inst.rep then held else stopped)) ∧
      (s.inst.txLen = 0#16 →
        exec .stTxdAckLast s = .next (delivered .txCmplt (if s.inst.rep then held else stopped))))

/-- R212, R214: the receive arms that go on: the acknowledge is armed by the length, after the decrement where a byte is
stored; the byte goes to `pRx`, and every other byte of memory reads as before. -/
def Obligations.ReceiveArms : Prop :=
  ∀ s : State, s.inst.state = .busyRx →
    exec .stSlarAck s = .next (s.command (decide (1 < s.inst.rxLen.toNat)) false false s.cr.ie .rx) ∧
    (s.inst.rxLen ≠ 0#16 → s.inst.pRx ≠ 0#16 →
      exec .stRxdAck s = .next
        { s.command (decide (1 < (s.inst.rxLen - 1#16).toNat)) false false s.cr.ie .rx with
          mem := s.mem.write s.inst.pRx.toNat s.dr
          inst := { s.inst with pRx := s.inst.pRx + 1#16, rxLen := s.inst.rxLen - 1#16 } }) ∧
    (s.mem.wf = true → ∀ t : State, exec .stRxdAck s = .next t →
      t.mem.read s.inst.pRx.toNat = s.dr ∧
      ∀ k : Nat, k ≠ s.inst.pRx.toNat → t.mem.read k = s.mem.read k)

/-- R213, R215, R171: the endings of a receive. -/
def Obligations.ReceiveEndings : Prop :=
  ∀ s : State, s.inst.state = .busyRx →
    let stopped (m : Memory) : State :=
      { s.command s.cr.ea false true false .stop with
        mem := m
        inst := { s.inst with state := .ready, pRx := 0#16, rxLen := 0#16 }, dead := false }
    let held (m : Memory) : State :=
      { s with
        cr := { s.cr with ie := false }
        mem := m
        inst := { s.inst with state := .ready, pRx := 0#16, rxLen := 0#16 }, dead := false }
    let stored : Memory := s.mem.write s.inst.pRx.toNat s.dr
    exec .stSlarNack s = notify .rxCmplt (stopped s.mem) ∧
    (s.inst.rxLen ≠ 0#16 → s.inst.pRx ≠ 0#16 →
      exec .stRxdNack s = notify .rxCmplt (if s.inst.rep then held stored else stopped stored)) ∧
    (QuietCallback s →
      exec .stSlarNack s = .next (delivered .rxCmplt (stopped s.mem)) ∧
      (s.inst.rxLen ≠ 0#16 → s.inst.pRx ≠ 0#16 →
        exec .stRxdNack s = .next (delivered .rxCmplt (if s.inst.rep then held stored else stopped stored)))) ∧
    (s.mem.wf = true → stored.read s.inst.pRx.toNat = s.dr ∧
      ∀ k : Nat, k ≠ s.inst.pRx.toNat → stored.read k = s.mem.read k)

/-- R172, R173, R171: bus error: STOP, the dead mark, the close of the busy side with the switch on, then `EV_ERR_BERR`,
delivered to whatever the callback does, here also written out for one that does nothing. -/
def Obligations.BusErrorArm : Prop :=
  ∀ s : State,
    let unclosed : State := { s.command s.cr.ea false true s.cr.ie .stop with dead := true }
    let sendClosed : State :=
      { s.command s.cr.ea false true false .stop with
        inst := { s.inst with state := .ready, pTx := 0#16, txLen := 0#16 }, dead := false }
    let receiveClosed : State :=
      { s.command s.cr.ea false true false .stop with
        inst := { s.inst with state := .ready, pRx := 0#16, rxLen := 0#16 }, dead := false }
    let left : State :=
      if s.params.busErrorCloses then
        (match s.inst.state with
          | .ready => unclosed
          | .busyTx => sendClosed
          | .busyRx => receiveClosed)
      else unclosed
    exec .stBusError s = notify .errBerr left ∧
    (QuietCallback s → exec .stBusError s = .next (delivered .errBerr left))

/-- R169: the guards of the master arms: where one fails the arm is a spurious status, and nothing is read or closed. -/
def Obligations.MasterGuardsFault : Prop :=
  ∀ s : State,
    (s.inst.state = .ready →
      exec .stStart s = .fault .spuriousStatus ∧ exec .stRstart s = .fault .spuriousStatus) ∧
    (s.inst.state ≠ .busyTx →
      exec .stSlawAck s = .fault .spuriousStatus ∧ exec .stSlawNack s = .fault .spuriousStatus ∧
      exec .stTxdAckMore s = .fault .spuriousStatus ∧ exec .stTxdAckLast s = .fault .spuriousStatus ∧
      exec .stTxdNack s = .fault .spuriousStatus) ∧
    (s.inst.txLen = 0#16 ∨ s.inst.pTx = 0#16 →
      exec .stSlawAck s = .fault .spuriousStatus ∧ exec .stTxdAckMore s = .fault .spuriousStatus) ∧
    (s.inst.state ≠ .busyRx →
      exec .stSlarAck s = .fault .spuriousStatus ∧ exec .stSlarNack s = .fault .spuriousStatus ∧
      exec .stRxdAck s = .fault .spuriousStatus ∧ exec .stRxdNack s = .fault .spuriousStatus) ∧
    (s.inst.rxLen = 0#16 ∨ s.inst.pRx = 0#16 →
      exec .stRxdAck s = .fault .spuriousStatus ∧ exec .stRxdNack s = .fault .spuriousStatus)

/-- R174: the fourteen codes no arm lists fault, each under its own code. -/
def Obligations.UnlistedCodesFault : Prop :=
  ∀ s : State,
    exec .stArbLost s = .fault (.unlistedStatus 0x38#8) ∧ exec .ssArbSlaw s = .fault (.unlistedStatus 0x68#8) ∧
    exec .ssGcall s = .fault (.unlistedStatus 0x70#8) ∧ exec .ssArbGcall s = .fault (.unlistedStatus 0x78#8) ∧
    exec .ssGcRxdAck s = .fault (.unlistedStatus 0x90#8) ∧ exec .ssGcRxdNack s = .fault (.unlistedStatus 0x98#8) ∧
    exec .ssArbSlar s = .fault (.unlistedStatus 0xB0#8) ∧ exec .ssTxlastAck s = .fault (.unlistedStatus 0xC8#8) ∧
    exec .unassignedD0 s = .fault (.unlistedStatus 0xD0#8) ∧ exec .unassignedD8 s = .fault (.unlistedStatus 0xD8#8) ∧
    exec .unassignedE0 s = .fault (.unlistedStatus 0xE0#8) ∧ exec .unassignedE8 s = .fault (.unlistedStatus 0xE8#8) ∧
    exec .unassignedF0 s = .fault (.unlistedStatus 0xF0#8) ∧ exec .stNoInfo s = .fault (.unlistedStatus 0xF8#8)

/-! ### The slave arms -/

/-- R237, R239, R241: the slave arms that re-arm the controller themselves, before the event where there is one. -/
def Obligations.SlaveRearmArms : Prop :=
  ∀ s : State, s.inst.cfg.role = .slave →
    let rearmed : State := s.command s.cr.ea false false s.cr.ie .listen
    exec .ssSlawAck s = .next rearmed ∧
    exec .ssStopRs s = notify .stop rearmed ∧
    exec .ssTxdNack s = notify .errAf rearmed ∧
    (QuietCallback s →
      exec .ssStopRs s = .next (delivered .stop rearmed) ∧ exec .ssTxdNack s = .next (delivered .errAf rearmed))

/-- R238, R240: the slave data arms: the event is delivered, and the controller must have been released by then; with a
callback that does its one data operation, and nothing else, the byte is returned or loaded. -/
def Obligations.SlaveDataArms : Prop :=
  (∀ (s : State) (i : Instr) (ev : Event), s.inst.cfg.role = .slave →
    (i = .ssRxdAck ∨ i = .ssRxdNack) ∧ ev = .dataRcv ∨ (i = .ssSlarAck ∨ i = .ssTxdAck) ∧ ev = .dataReq →
    exec i s = andThen (notify ev s) fun t => if t.cr.int then .fault .callbackContract else .next t) ∧
  ∀ (s : State) (i : Instr), s.inst.cfg.role = .slave → s.cr.en = true → s.cr.int = true →
    (i = .ssRxdAck ∨ i = .ssRxdNack → ∀ k : Bool, s.nextCallback = [.slaveReadByte k] →
      exec i s = .next (delivered .dataRcv
        ({ s with ret := some (.byte s.dr) }.command k false false s.cr.ie .listen))) ∧
    (i = .ssSlarAck ∨ i = .ssTxdAck → ∀ b : Byte, s.nextCallback = [.slaveSendByte b] →
      exec i s = .next (delivered .dataReq ({ s with dr := b }.command s.cr.ea false false s.cr.ie (.tx b))))

/-- R238, R240, R245, R319, R248: a slave callback that does nothing breaks its contract, and so does one that never
returns, its data operation done or not (the name of that fault is the model's choice, log entry 11); a second
`SlaveSendByte` collides, a second `SlaveReadByte` is out of sequence; and a slave code in the master role is spurious. -/
def Obligations.SlaveContractFaults : Prop :=
  ∀ (s : State) (i : Instr),
    (i = .ssRxdAck ∨ i = .ssRxdNack ∨ i = .ssSlarAck ∨ i = .ssTxdAck →
      s.inst.cfg.role = .slave → s.cr.int = true → QuietCallback s → exec i s = .fault .callbackContract) ∧
    (i = .ssRxdAck ∨ i = .ssRxdNack ∨ i = .ssSlarAck ∨ i = .ssTxdAck ∨ i = .ssStopRs ∨ i = .ssTxdNack →
      s.inst.cfg.role = .slave → ∀ rest : List CallbackOp, s.nextCallback = .noReturn :: rest →
      exec i s = .fault .callbackContract) ∧
    (i = .ssRxdAck ∨ i = .ssRxdNack → s.inst.cfg.role = .slave → s.cr.en = true → s.cr.int = true →
      ∀ (k : Bool) (rest : List CallbackOp), s.nextCallback = .slaveReadByte k :: .noReturn :: rest →
      exec i s = .fault .callbackContract) ∧
    (i = .ssSlarAck ∨ i = .ssTxdAck → s.inst.cfg.role = .slave → s.cr.en = true → s.cr.int = true →
      ∀ (b : Byte) (rest : List CallbackOp), s.nextCallback = .slaveSendByte b :: .noReturn :: rest →
      exec i s = .fault .callbackContract) ∧
    (i = .ssSlarAck ∨ i = .ssTxdAck → s.inst.cfg.role = .slave → s.cr.en = true → s.cr.int = true →
      ∀ b c : Byte, s.nextCallback = [.slaveSendByte b, .slaveSendByte c] → exec i s = .fault .writeCollision) ∧
    (i = .ssRxdAck ∨ i = .ssRxdNack → s.inst.cfg.role = .slave → s.cr.en = true → s.cr.int = true →
      ∀ k l : Bool, s.nextCallback = [.slaveReadByte k, .slaveReadByte l] → exec i s = .refused .outOfSequence) ∧
    (i = .ssSlawAck ∨ i = .ssRxdAck ∨ i = .ssRxdNack ∨ i = .ssStopRs ∨ i = .ssSlarAck ∨ i = .ssTxdAck ∨
        i = .ssTxdNack → s.inst.cfg.role = .master → exec i s = .fault .spuriousStatus)

/-! ### Outputs -/

/-- R276, R277: every event output records its event and runs the callback to its end: its operations in order, each of them
the application's operation of that name, a write to a buffer byte or the global interrupt enable; a blocking operation
there is refused. R245, R277: a callback that never returns, whatever it did before, stops everything: a fault. R278, R106:
the error output records its code and halts the block unless the error handler returns. The model's choices (log entry 11):
the callback may also issue `Init`, write buffers and set `gie`; the fault of one that never returns is CallbackContract. -/
def Obligations.Outputs : Prop :=
  ∀ s : State,
    (∀ ev : Event, notify ev s =
      andThen (runCallback s.nextCallback
          { s with events := s.events ++ [ev], delivering := some ev, callbacks := s.callbacks.tail })
        fun t => .next { t with delivering := none }) ∧
    (runCallback [] s = .next s ∧ ∀ (op : CallbackOp) (rest : List CallbackOp),
      runCallback (op :: rest) s = andThen (runCallbackOp op s) fun t => runCallback rest t) ∧
    (∀ (buf : Ptr) (len : Len) (a : Byte) (rep : Bool),
      runCallbackOp (.masterSendAsync buf len a rep) s = exec (.masterSendAsync buf len a rep) s ∧
      runCallbackOp (.masterReceiveAsync buf len a rep) s = exec (.masterReceiveAsync buf len a rep) s) ∧
    runCallbackOp .closeSend s = exec .closeSend s ∧ runCallbackOp .closeReceive s = exec .closeReceive s ∧
    (∀ b : Byte, runCallbackOp (.slaveSendByte b) s = exec (.slaveSendByte b) s) ∧
    (∀ k : Bool, runCallbackOp (.slaveReadByte k) s = exec (.slaveReadByte k) s) ∧
    (∀ (speed : BitVec 32) (a : Byte) (r : Role), runCallbackOp (.init speed a r) s = exec (.init speed a r) s) ∧
    runCallbackOp .blocking s = .refused .blockingInHandler ∧
    (∀ (p : Ptr) (b : Byte), runCallbackOp (.store p b) s = .next { s with mem := s.mem.write p.toNat b }) ∧
    (∀ b : Bool, runCallbackOp (.setGie b) s = .next { s with gie := b }) ∧
    runCallbackOp .noReturn s = .fault .callbackContract ∧
    (∀ (ev : Event) (ops rest : List CallbackOp) (t : State), s.nextCallback = ops ++ .noReturn :: rest →
      runCallback ops
          { s with events := s.events ++ [ev], delivering := some ev, callbacks := s.callbacks.tail } = .next t →
      notify ev s = .fault .callbackContract) ∧
    (QuietCallback s →
      exec .evTxCmplt s = .next (delivered .txCmplt s) ∧ exec .evRxCmplt s = .next (delivered .rxCmplt s) ∧
      exec .evStop s = .next (delivered .stop s) ∧ exec .evErrArlo s = .next (delivered .errArlo s) ∧
      exec .evErrBerr s = .next (delivered .errBerr s) ∧ exec .evErrAf s = .next (delivered .errAf s) ∧
      exec .evErrOvr s = .next (delivered .errOvr s) ∧ exec .evErrTimeout s = .next (delivered .errTimeout s) ∧
      exec .evDataReq s = .next (delivered .dataReq s) ∧ exec .evDataRcv s = .next (delivered .dataRcv s)) ∧
    exec .errStart s = .next
      { s with errors := s.errors ++ [.start], halted := s.halted || !s.params.errorHandlerReturns } ∧
    exec .errAddrNack s = .next
      { s with errors := s.errors ++ [.addrNack], halted := s.halted || !s.params.errorHandlerReturns }

/-! ### ENV -/

/-- R30, R44: whatever ENV does, it writes only CR.INT, CR.STO, CR.WC, SR.code, DR, its own hidden state and the wire; R68:
and while `CR.INT = 1` nothing at all. -/
def Obligations.EnvWritesOnlyItsOwn : Prop :=
  ∀ (m : EnvMove) (s : State),
    envStep m s =
      { s with
        cr := { s.cr with int := (envStep m s).cr.int, sto := (envStep m s).cr.sto, wc := (envStep m s).cr.wc }
        sr := { s.sr with code := (envStep m s).sr.code }
        dr := (envStep m s).dr
        env := (envStep m s).env
        wire := (envStep m s).wire } ∧
    ((envStep m s).wire = s.wire ∨ ∃ items : List WireItem, (envStep m s).wire = s.wire ++ items) ∧
    (s.cr.int = true → envStep m s = s)

/-- R72, R73, R74, R75: the well-behaved completions in the master role; R76: bus error and lost arbitration instead, with
nothing on the wire, for every master command but STOP. The model's choice (log entry 16): these two leave the bus as owned
as it was. -/
def Obligations.EnvMasterCompletions : Prop :=
  ∀ (s : State) (ack : Bool) (d : Byte), s.cr.int = false → s.env.stopFirst = false →
    let completed (c : Code) (item : List WireItem) (owned : Bool) : State :=
      { s with
        cr := { s.cr with int := true }
        sr := { s.sr with code := c }
        env := { s.env with pend := .none, busOwned := owned }
        wire := s.wire ++ item }
    (s.env.pend = .start → envStep (.reply ack d) s =
      if s.env.busOwned then completed Status.rstart [.rstart] true else completed Status.start [.start] true) ∧
    (∀ b : Byte, s.env.pend = .tx b → s.sr.code = Status.start ∨ s.sr.code = Status.rstart →
      envStep (.reply ack d) s = completed
        (if b.getLsbD 0 then (if ack then Status.slarAck else Status.slarNack)
          else (if ack then Status.slawAck else Status.slawNack))
        [.tx b ack] s.env.busOwned) ∧
    (∀ b : Byte, s.env.pend = .tx b →
      s.sr.code = Status.slawAck ∨ s.sr.code = Status.txdAck ∨ s.sr.code = Status.slawNack ∨
        s.sr.code = Status.txdNack →
      envStep (.reply ack d) s =
        completed (if ack then Status.txdAck else Status.txdNack) [.tx b ack] s.env.busOwned) ∧
    (s.env.pend = .rx → s.sr.code = Status.slarAck ∨ s.sr.code = Status.rxdAck →
      envStep (.reply ack d) s =
        { completed (if s.cr.ea then Status.rxdAck else Status.rxdNack) [.rx d s.cr.ea] s.env.busOwned with dr := d }) ∧
    (s.env.pend = .start ∨ s.env.pend = .rx ∨ s.inst.cfg.role = .master ∧ (∃ b : Byte, s.env.pend = .tx b) →
      envStep .busError s = completed Status.busError [] s.env.busOwned ∧
      envStep .arbLost s = completed Status.arbLost [] s.env.busOwned)

/-- R78: the STOP goes out: STO cleared, the bus released, SR at ST_NO_INFO, no completion; on the wire unless its command
answered a bus error or was given in the slave role (`stopSilent`, settled then: `Obligations.ControllerCommands`). The
model's choices (log entry 16): an activity started during it, a START or another, is still in flight after it; in the
slave role the controller listens again (R242). -/
def Obligations.EnvCompletesStop : Prop :=
  ∀ (s : State) (ack : Bool) (d : Byte), s.cr.int = false →
    (s.env.pend = .stop ∨ s.env.stopFirst = true) →
    envStep (.reply ack d) s =
      { s with
        cr := { s.cr with sto := false }
        sr := { s.sr with code := Status.noInfo }
        env :=
          { pend :=
              if s.env.stopFirst then s.env.pend
              else match s.inst.cfg.role with
                | .master => .none
                | .slave => .listen
            busOwned := false, stopFirst := false, stopSilent := false, stopGiven := s.env.stopGiven }
        wire := if s.env.stopSilent then s.wire else s.wire ++ [.stop] }

/-- R79, R95: the well-behaved completions in the slave role, with ACK enabled and with it disabled: the own address is then
not answered, a data byte gets NACK, and a byte that the master acknowledges is the slave's last (the code R95 gives it:
the model's choice, log entry 16). -/
def Obligations.EnvSlaveCompletions : Prop :=
  ∀ s : State, s.cr.int = false → s.env.stopFirst = false → s.cr.en = true →
    let completed (c : Code) (items : List WireItem) (d : Byte) : State :=
      { s with
        cr := { s.cr with int := true }
        sr := { s.sr with code := c }
        dr := d
        env := { s.env with pend := .none }
        wire := s.wire ++ items }
    (s.env.pend = .listen → s.sr.code ≠ Status.ssSlawAck → s.sr.code ≠ Status.ssRxdAck →
      (s.cr.ea = true →
        envStep (.slave .addressWrite) s = completed Status.ssSlawAck [] s.dr ∧
        envStep (.slave .addressRead) s = completed Status.ssSlarAck [] s.dr) ∧
      (s.cr.ea = false → envStep (.slave .addressWrite) s = s ∧ envStep (.slave .addressRead) s = s)) ∧
    (s.env.pend = .listen → s.sr.code = Status.ssSlawAck ∨ s.sr.code = Status.ssRxdAck →
      (∀ b : Byte, envStep (.slave (.data b)) s =
        completed (if s.cr.ea then Status.ssRxdAck else Status.ssRxdNack) [.rx b s.cr.ea] b) ∧
      envStep (.slave .stopOrRestart) s = completed Status.ssStopRs [] s.dr) ∧
    (∀ (b d : Byte) (ack : Bool), s.env.pend = .tx b → s.sr.code = Status.ssSlarAck ∨ s.sr.code = Status.ssTxdAck →
      envStep (.reply ack d) s =
        completed
          (if ack then (if s.cr.ea then Status.ssTxdAck else Status.ssTxlastAck) else Status.ssTxdNack)
          [.tx b ack] s.dr) ∧
    (s.env.pend = .listen ∨ (∃ b : Byte, s.env.pend = .tx b) →
      envStep .busError s = completed Status.busError [] s.dr)

/-- R71: the unconstrained oracle can answer anything in flight with any of the 32 codes, and ENV may also never answer
(R77): with no move of ENV left, HOST's wait is not lifted. The model's choices (log entry 16): a START code marks the bus
owned, nothing clears that mark or CR.STO, and a STOP queued before what is answered is dropped. -/
def Obligations.EnvMayAnswerAnything : Prop :=
  ∀ (s : State) (c : Code) (data : Option Byte) (wc : Bool) (items : List WireItem), s.cr.int = false →
    s.env.pend ≠ .none →
    envStep (.answer c data wc items) s =
      { s with
        cr := { s.cr with int := true, wc := wc }
        sr := { s.sr with code := c }
        dr := data.getD s.dr
        env :=
          { pend := .none
            busOwned := s.env.busOwned || decide (c = Status.start ∨ c = Status.rstart)
            stopFirst := false, stopSilent := false, stopGiven := s.env.stopGiven }
        wire := s.wire ++ items } ∧
    (∀ n : Nat, s.host ≠ .idle → s.envMoves = [] → s.portWord = none → NoReset s →
      ∃ t : State, Host.Core.run Sys2Proof.core n s = .next t ∧ t.host = s.host ∧ t.cr = s.cr)

/-! ### Rules about the whole machine -/

/-- R170: the only changes of `inst.state` that an instruction makes (a callback that does nothing): the two accepted entry
points from READY; back to READY by the endings of its own side, an explicit close, or a bus error with the switch on. -/
def Obligations.StateTransitions : Prop :=
  ∀ (i : Instr) (s t : State), QuietCallback s → exec i s = .next t → t.inst.state ≠ s.inst.state →
    (s.inst.state = .ready ∧ t.inst.state = .busyTx ∧
      ∃ buf len a rep, i = .masterSendAsync buf len a rep ∧ len ≠ 0#16) ∨
    (s.inst.state = .ready ∧ t.inst.state = .busyRx ∧
      ∃ buf len a rep, i = .masterReceiveAsync buf len a rep ∧ len ≠ 0#16) ∨
    (s.inst.state = .busyTx ∧ t.inst.state = .ready ∧
      (i = .stSlawNack ∨ i = .stTxdAckLast ∨ i = .stTxdNack ∨ i = .closeSend ∨
        i = .stBusError ∧ s.params.busErrorCloses = true)) ∨
    (s.inst.state = .busyRx ∧ t.inst.state = .ready ∧
      (i = .stSlarNack ∨ i = .stRxdNack ∨ i = .closeReceive ∨
        i = .stBusError ∧ s.params.busErrorCloses = true))

/-- R33: the only changes of `CR.IE` (a callback that does nothing): set by the accepted entry points and by `Init` in the
slave role, cleared by the closes, alone or inside the arms. The rows of format CR write the bit their word gives; the block's own
commands give it as it was, or set (`Obligations.CommandRows`). -/
def Obligations.InterruptEnableChanges : Prop :=
  ∀ (i : Instr) (s t : State), QuietCallback s → exec i s = .next t → t.cr.ie ≠ s.cr.ie →
    (encode i).format = .cr ∨
    (t.cr.ie = true ∧
      ((∃ buf len a rep, i = .masterSendAsync buf len a rep ∧ len ≠ 0#16) ∨
        (∃ buf len a rep, i = .masterReceiveAsync buf len a rep ∧ len ≠ 0#16) ∨
        ∃ speed a, i = .init speed a .slave)) ∨
    (t.cr.ie = false ∧ t.inst.state = .ready ∧
      (i = .stSlawNack ∨ i = .stTxdAckLast ∨ i = .stTxdNack ∨ i = .closeSend ∨
        i = .stSlarNack ∨ i = .stRxdNack ∨ i = .closeReceive ∨
        i = .stBusError ∧ s.params.busErrorCloses = true))

/-- R175: right after a handler invocation CR.INT and CR.IE are not both 1, whatever the callback did short of an `Init`
(which R277 does not list). -/
def Obligations.OneCodePerInvocation : Prop :=
  ∀ s t : State, ResetNotNext s → s.halted = false → s.interruptCondition = true → CallbackWithoutInit s →
    step s = .next t → (t.cr.int && t.cr.ie) = false

/-- R281: no run emits arbitration-lost, overrun or timeout. -/
def Obligations.UnraisedEventsNeverEmitted : Prop :=
  ∀ (n : Nat) (s t : State), Host.Core.run Sys2Proof.core n s = .next t →
    (∀ ev ∈ s.events, ev.unraised = false) → ∀ ev ∈ t.events, ev.unraised = false

/-- R11: a step that is not the reset input's only appends to the observation lists; and nothing but the reset input
clears `halted` (R42). -/
def Obligations.ObservationsOnlyGrow : Prop :=
  ∀ s t : State, ResetNotNext s → step s = .next t →
    (∃ items, t.wire = s.wire ++ items) ∧ (∃ evs, t.events = s.events ++ evs) ∧ (∃ es, t.errors = s.errors ++ es) ∧
    (s.halted = true → t.halted = true)

/-! ### Whole asynchronous transactions -/

/-- R190, R191: an asynchronous send run to its end against a slave that acknowledges everything: the command, then for each
of the `len + 2` completions one handler invocation, then the STOP unless a repeated start was asked for. On the wire:
START (or repeated START), the address byte, the bytes of the buffer in ascending order, STOP; `EV_TX_CMPLT` once; READY,
pointer and length cleared; memory as before. -/
def Obligations.AsyncSendRun : Prop :=
  ∀ (s : State) (buf : Ptr) (len : Len) (a : Byte) (rep : Bool) (more : List EnvMove),
    Poised s (encode (.masterSendAsync buf len a rep)).bytes
      (acknowledging (len.toNat + 2) ++ (if rep then [] else acknowledging 1) ++ more) →
    s.gie = true → a.toNat ≤ 0x7F → len ≠ 0#16 → BufferFits buf len →
    ∃ t : State,
      Host.Core.run Sys2Proof.core (1 + 2 * (len.toNat + 2) + (if rep then 0 else 1)) s = .next t ∧
      t.wire = s.wire ++
        [if s.env.busOwned then .rstart else .start, .tx (addrByteOf (a.setWidth 7) .write) true] ++
        (bufferBytes s.mem buf.toNat len.toNat).map (fun b => WireItem.tx b true) ++
        (if rep then [] else [.stop]) ∧
      t.events = s.events ++ [.txCmplt] ∧ t.errors = s.errors ∧ t.mem = s.mem ∧
      t.inst = { s.inst with state := .ready, pTx := 0#16, txLen := 0#16, devAddr := a.setWidth 7, rep := rep } ∧
      t.cr.ie = false ∧ t.cr.int = rep ∧ t.env.busOwned = rep ∧ t.host = .idle ∧ t.app = [] ∧ t.envMoves = more

/-- R216 (P3), R215: an asynchronous receive of the listed bytes: ACK armed for all but the last, NACK for the last, byte k
stored at `buf + k`, every other byte of memory as before, `EV_RX_CMPLT` once, `len + 2` handler invocations. -/
def Obligations.AsyncReceiveRun : Prop :=
  ∀ (s : State) (buf : Ptr) (len : Len) (a : Byte) (rep : Bool) (bytes : List Byte) (more : List EnvMove),
    Poised s (encode (.masterReceiveAsync buf len a rep)).bytes
      (acknowledging 2 ++ yielding bytes ++ (if rep then [] else acknowledging 1) ++ more) →
    s.mem.wf = true → s.gie = true → a.toNat ≤ 0x7F → len ≠ 0#16 → BufferFits buf len →
    bytes.length = len.toNat →
    ∃ t : State,
      Host.Core.run Sys2Proof.core (1 + 2 * (len.toNat + 2) + (if rep then 0 else 1)) s = .next t ∧
      t.wire = s.wire ++
        [if s.env.busOwned then .rstart else .start, .tx (addrByteOf (a.setWidth 7) .read) true] ++
        bytes.mapIdx (fun k b => WireItem.rx b (decide (k + 1 < bytes.length))) ++
        (if rep then [] else [.stop]) ∧
      bufferBytes t.mem buf.toNat len.toNat = bytes ∧
      (∀ k : Nat, k < buf.toNat ∨ buf.toNat + len.toNat ≤ k → t.mem.read k = s.mem.read k) ∧
      t.events = s.events ++ [.rxCmplt] ∧ t.errors = s.errors ∧
      t.inst = { s.inst with state := .ready, pRx := 0#16, rxLen := 0#16, devAddr := a.setWidth 7, rep := rep } ∧
      t.cr.ie = false ∧ t.cr.int = rep ∧ t.env.busOwned = rep ∧ t.host = .idle ∧ t.app = [] ∧ t.envMoves = more
end

