-- ==== Sys2Proof/Laws/Encoding.lean ====
section
/-! SUPPORT. Operand bytes read back as the operand they were made from. -/

namespace Sys2Proof

theorem word_of_bytes (v : BitVec 16) : v.extractLsb' 8 8 ++ v.extractLsb' 0 8 = v := by
  ext i hi; simp; grind

theorem long_of_bytes (v : BitVec 32) :
    v.extractLsb' 24 8 ++ v.extractLsb' 16 8 ++ v.extractLsb' 8 8 ++ v.extractLsb' 0 8 = v := by
  ext i hi; simp; grind

@[simp] theorem flagOf_flagByte (b : Bool) : flagOf (flagByte b) = some b := by cases b <;> rfl

@[simp] theorem flagOf_roleByte (r : Role) : flagOf (roleByte r) = some (decide (r = .slave)) := by cases r <;> rfl

@[simp] theorem flagOf_dirByte (d : Dir) : flagOf (dirByte d) = some (decide (d = .read)) := by cases d <;> rfl

theorem codeOf_codeByte (c : Code) : codeOf (codeByte c) = c := by revert c; decide

theorem codeOf_statusWord (c : Code) (ps : BitVec 2) : codeOf (statusWord c ps) = c := by revert c ps; decide

theorem prescalerOf_statusWord (c : Code) (ps : BitVec 2) : prescalerOf (statusWord c ps) = ps := by
  revert c ps; decide

theorem addrByteOf_address (a : Addr7) (d : Dir) : (addrByteOf a d).extractLsb' 1 7 = a := by
  cases d <;> revert a <;> decide

theorem addrByteOf_direction (a : Addr7) (d : Dir) : (addrByteOf a d).getLsbD 0 = decide (d = .read) := by
  cases d <;> revert a <;> decide

theorem addrByteOf_toNat (a : Addr7) (d : Dir) :
    (addrByteOf a d).toNat = 2 * a.toNat + (match d with | .write => 0 | .read => 1) := by
  cases d <;> revert a <;> decide

theorem decodeTransfer_encode (mk : Ptr → Len → Byte → Bool → Instr) (buf : Ptr) (len : Len) (a : Byte) (rep : Bool)
    (rest : List Byte) (h : sevenBit a = true) :
    decodeTransfer mk (wordBytes buf ++ wordBytes len ++ [a, flagByte rep] ++ rest) = .ok (mk buf len a rep, rest) := by
  simp [decodeTransfer, wordBytes, h, word_of_bytes]

end Sys2Proof
end

