-- ==== Sys2Proof/Laws/Memory.lean ====
section
/-! SUPPORT. The laws of buffer memory: read after write, and the canonical form kept. -/

namespace Sys2Proof.Machine.Memory

theorem wfFrom_cons {lo a : Nat} {b : Byte} {rest : Memory} :
    wfFrom lo ((a, b) :: rest) = true ↔ lo ≤ a ∧ a < 65536 ∧ b ≠ fill ∧ wfFrom (a + 1) rest = true := by
  simp [wfFrom, and_assoc]

theorem wfFrom_mono {lo lo' : Nat} {m : Memory} (h : wfFrom lo m = true) (hl : lo' ≤ lo) : wfFrom lo' m = true := by
  cases m with
  | nil => rfl
  | cons c rest => rw [wfFrom_cons] at *; exact ⟨by omega, h.2⟩

theorem read_eq_fill_of_lt {lo k : Nat} {m : Memory} (h : wfFrom lo m = true) (hk : k < lo) : read m k = fill := by
  induction m generalizing lo with
  | nil => rfl
  | cons c rest ih =>
    rw [wfFrom_cons] at h
    have : c.1 ≠ k := by omega
    simp only [read, this, if_false]
    exact ih h.2.2.2 (by omega)

/-- Reading after a write: the written byte at its address, the old byte everywhere else. -/
theorem read_write {lo : Nat} {m : Memory} (h : wfFrom lo m = true) (k j : Nat) (v : Byte) :
    read (write m k v) j = if j = k then v else read m j := by
  induction m generalizing lo with
  | nil => grind [write, read]
  | cons c rest ih =>
    obtain ⟨a, b⟩ := c
    rw [wfFrom_cons] at h
    have below := fun i (hi : i < a + 1) => read_eq_fill_of_lt h.2.2.2 hi
    have ih := ih h.2.2.2
    grind [write, read]

/-- A write inside the buffer space keeps the canonical form. -/
theorem wfFrom_write {lo : Nat} {m : Memory} (h : wfFrom lo m = true) (k : Nat) (v : Byte)
    (hlo : lo ≤ k) (hk : k < 65536) : wfFrom lo (write m k v) = true := by
  induction m generalizing lo with
  | nil => by_cases hv : v = fill <;> simp [write, wfFrom, *]
  | cons c rest ih =>
    obtain ⟨a, b⟩ := c
    have h' := wfFrom_cons.1 h
    have tail := @ih (a + 1) h'.2.2.2
    have weaker := wfFrom_mono (lo' := lo) h'.2.2.2 (by omega)
    simp only [write]
    split_ifs
    · exact h
    · rw [wfFrom_cons, wfFrom_cons]; exact ⟨hlo, hk, ‹_›, by omega, h'.2⟩
    · exact weaker
    · subst_vars; rw [wfFrom_cons]; exact ⟨hlo, hk, ‹_›, h'.2.2.2⟩
    · rw [wfFrom_cons]; exact ⟨h'.1, h'.2.1, h'.2.2.1, tail (by omega)⟩

theorem wf_write {m : Memory} (h : m.wf = true) (p : BitVec 16) (v : Byte) : (m.write p.toNat v).wf = true :=
  wfFrom_write h _ _ (Nat.zero_le _) p.isLt

theorem wf_nil : wf [] = true := rfl

theorem wf_load (image : List (BitVec 16 × Byte)) : (load image).wf = true := by
  induction image with
  | nil => rfl
  | cons c rest ih => exact wf_write ih c.1 c.2

end Sys2Proof.Machine.Memory
end

