-- ==== Sys2Proof/Laws/State.lean ====
section
/-! SUPPORT. One lemma per field per named update of the state, each true by computation. -/

namespace Sys2Proof.Machine

@[simp] theorem State.command_inst (s : State) (ea sta sto ie : Bool) (p : Pending) : (s.command ea sta sto ie p).inst = s.inst := rfl
@[simp] theorem State.command_cr (s : State) (ea sta sto ie : Bool) (p : Pending) : (s.command ea sta sto ie p).cr = ⟨false, ea, sta, sto, s.cr.wc, true, ie⟩ := rfl
@[simp] theorem State.command_sr (s : State) (ea sta sto ie : Bool) (p : Pending) : (s.command ea sta sto ie p).sr = s.sr := rfl
@[simp] theorem State.command_dr (s : State) (ea sta sto ie : Bool) (p : Pending) : (s.command ea sta sto ie p).dr = s.dr := rfl
@[simp] theorem State.command_ar (s : State) (ea sta sto ie : Bool) (p : Pending) : (s.command ea sta sto ie p).ar = s.ar := rfl
@[simp] theorem State.command_amr (s : State) (ea sta sto ie : Bool) (p : Pending) : (s.command ea sta sto ie p).amr = s.amr := rfl
@[simp] theorem State.command_br (s : State) (ea sta sto ie : Bool) (p : Pending) : (s.command ea sta sto ie p).br = s.br := rfl
@[simp] theorem State.command_env (s : State) (ea sta sto ie : Bool) (p : Pending) : (s.command ea sta sto ie p).env = s.launch p := rfl
@[simp] theorem State.command_gie (s : State) (ea sta sto ie : Bool) (p : Pending) : (s.command ea sta sto ie p).gie = s.gie := rfl
@[simp] theorem State.command_inHandler (s : State) (ea sta sto ie : Bool) (p : Pending) : (s.command ea sta sto ie p).inHandler = s.inHandler := rfl
@[simp] theorem State.command_halted (s : State) (ea sta sto ie : Bool) (p : Pending) : (s.command ea sta sto ie p).halted = s.halted := rfl
@[simp] theorem State.command_dead (s : State) (ea sta sto ie : Bool) (p : Pending) : (s.command ea sta sto ie p).dead = s.dead := rfl
@[simp] theorem State.command_delivering (s : State) (ea sta sto ie : Bool) (p : Pending) : (s.command ea sta sto ie p).delivering = s.delivering := rfl
@[simp] theorem State.command_wire (s : State) (ea sta sto ie : Bool) (p : Pending) : (s.command ea sta sto ie p).wire = s.wire := rfl
@[simp] theorem State.command_events (s : State) (ea sta sto ie : Bool) (p : Pending) : (s.command ea sta sto ie p).events = s.events := rfl
@[simp] theorem State.command_errors (s : State) (ea sta sto ie : Bool) (p : Pending) : (s.command ea sta sto ie p).errors = s.errors := rfl
@[simp] theorem State.command_mem (s : State) (ea sta sto ie : Bool) (p : Pending) : (s.command ea sta sto ie p).mem = s.mem := rfl
@[simp] theorem State.command_host (s : State) (ea sta sto ie : Bool) (p : Pending) : (s.command ea sta sto ie p).host = s.host := rfl
@[simp] theorem State.command_seq (s : State) (ea sta sto ie : Bool) (p : Pending) : (s.command ea sta sto ie p).seq = s.seq := rfl
@[simp] theorem State.command_ret (s : State) (ea sta sto ie : Bool) (p : Pending) : (s.command ea sta sto ie p).ret = s.ret := rfl
@[simp] theorem State.command_params (s : State) (ea sta sto ie : Bool) (p : Pending) : (s.command ea sta sto ie p).params = s.params := rfl
@[simp] theorem State.command_portWord (s : State) (ea sta sto ie : Bool) (p : Pending) : (s.command ea sta sto ie p).portWord = s.portWord := rfl
@[simp] theorem State.command_app (s : State) (ea sta sto ie : Bool) (p : Pending) : (s.command ea sta sto ie p).app = s.app := rfl
@[simp] theorem State.command_callbacks (s : State) (ea sta sto ie : Bool) (p : Pending) : (s.command ea sta sto ie p).callbacks = s.callbacks := rfl
@[simp] theorem State.command_envMoves (s : State) (ea sta sto ie : Bool) (p : Pending) : (s.command ea sta sto ie p).envMoves = s.envMoves := rfl
@[simp] theorem State.command_turns (s : State) (ea sta sto ie : Bool) (p : Pending) : (s.command ea sta sto ie p).turns = s.turns := rfl

@[simp] theorem cmdStart_inst (b : Bool) (s : State) : (cmdStart b s).inst = s.inst := rfl
@[simp] theorem cmdStart_cr (b : Bool) (s : State) : (cmdStart b s).cr = ⟨false, s.cr.ea, true, false, s.cr.wc, true, b || s.cr.ie⟩ := rfl
@[simp] theorem cmdStart_sr (b : Bool) (s : State) : (cmdStart b s).sr = s.sr := rfl
@[simp] theorem cmdStart_dr (b : Bool) (s : State) : (cmdStart b s).dr = s.dr := rfl
@[simp] theorem cmdStart_ar (b : Bool) (s : State) : (cmdStart b s).ar = s.ar := rfl
@[simp] theorem cmdStart_amr (b : Bool) (s : State) : (cmdStart b s).amr = s.amr := rfl
@[simp] theorem cmdStart_br (b : Bool) (s : State) : (cmdStart b s).br = s.br := rfl
@[simp] theorem cmdStart_env (b : Bool) (s : State) : (cmdStart b s).env = s.launch .start := rfl
@[simp] theorem cmdStart_gie (b : Bool) (s : State) : (cmdStart b s).gie = s.gie := rfl
@[simp] theorem cmdStart_inHandler (b : Bool) (s : State) : (cmdStart b s).inHandler = s.inHandler := rfl
@[simp] theorem cmdStart_halted (b : Bool) (s : State) : (cmdStart b s).halted = s.halted := rfl
@[simp] theorem cmdStart_dead (b : Bool) (s : State) : (cmdStart b s).dead = s.dead := rfl
@[simp] theorem cmdStart_delivering (b : Bool) (s : State) : (cmdStart b s).delivering = s.delivering := rfl
@[simp] theorem cmdStart_wire (b : Bool) (s : State) : (cmdStart b s).wire = s.wire := rfl
@[simp] theorem cmdStart_events (b : Bool) (s : State) : (cmdStart b s).events = s.events := rfl
@[simp] theorem cmdStart_errors (b : Bool) (s : State) : (cmdStart b s).errors = s.errors := rfl
@[simp] theorem cmdStart_mem (b : Bool) (s : State) : (cmdStart b s).mem = s.mem := rfl
@[simp] theorem cmdStart_host (b : Bool) (s : State) : (cmdStart b s).host = s.host := rfl
@[simp] theorem cmdStart_seq (b : Bool) (s : State) : (cmdStart b s).seq = s.seq := rfl
@[simp] theorem cmdStart_ret (b : Bool) (s : State) : (cmdStart b s).ret = s.ret := rfl
@[simp] theorem cmdStart_params (b : Bool) (s : State) : (cmdStart b s).params = s.params := rfl
@[simp] theorem cmdStart_portWord (b : Bool) (s : State) : (cmdStart b s).portWord = s.portWord := rfl
@[simp] theorem cmdStart_app (b : Bool) (s : State) : (cmdStart b s).app = s.app := rfl
@[simp] theorem cmdStart_callbacks (b : Bool) (s : State) : (cmdStart b s).callbacks = s.callbacks := rfl
@[simp] theorem cmdStart_envMoves (b : Bool) (s : State) : (cmdStart b s).envMoves = s.envMoves := rfl
@[simp] theorem cmdStart_turns (b : Bool) (s : State) : (cmdStart b s).turns = s.turns := rfl

@[simp] theorem cmdArm_inst (k : Bool) (s : State) : (cmdArm k s).inst = s.inst := rfl
@[simp] theorem cmdArm_cr (k : Bool) (s : State) : (cmdArm k s).cr = ⟨false, k, false, false, s.cr.wc, true, s.cr.ie⟩ := rfl
@[simp] theorem cmdArm_sr (k : Bool) (s : State) : (cmdArm k s).sr = s.sr := rfl
@[simp] theorem cmdArm_dr (k : Bool) (s : State) : (cmdArm k s).dr = s.dr := rfl
@[simp] theorem cmdArm_ar (k : Bool) (s : State) : (cmdArm k s).ar = s.ar := rfl
@[simp] theorem cmdArm_amr (k : Bool) (s : State) : (cmdArm k s).amr = s.amr := rfl
@[simp] theorem cmdArm_br (k : Bool) (s : State) : (cmdArm k s).br = s.br := rfl
@[simp] theorem cmdArm_env (k : Bool) (s : State) : (cmdArm k s).env = s.launch .rx := rfl
@[simp] theorem cmdArm_gie (k : Bool) (s : State) : (cmdArm k s).gie = s.gie := rfl
@[simp] theorem cmdArm_inHandler (k : Bool) (s : State) : (cmdArm k s).inHandler = s.inHandler := rfl
@[simp] theorem cmdArm_halted (k : Bool) (s : State) : (cmdArm k s).halted = s.halted := rfl
@[simp] theorem cmdArm_dead (k : Bool) (s : State) : (cmdArm k s).dead = s.dead := rfl
@[simp] theorem cmdArm_delivering (k : Bool) (s : State) : (cmdArm k s).delivering = s.delivering := rfl
@[simp] theorem cmdArm_wire (k : Bool) (s : State) : (cmdArm k s).wire = s.wire := rfl
@[simp] theorem cmdArm_events (k : Bool) (s : State) : (cmdArm k s).events = s.events := rfl
@[simp] theorem cmdArm_errors (k : Bool) (s : State) : (cmdArm k s).errors = s.errors := rfl
@[simp] theorem cmdArm_mem (k : Bool) (s : State) : (cmdArm k s).mem = s.mem := rfl
@[simp] theorem cmdArm_host (k : Bool) (s : State) : (cmdArm k s).host = s.host := rfl
@[simp] theorem cmdArm_seq (k : Bool) (s : State) : (cmdArm k s).seq = s.seq := rfl
@[simp] theorem cmdArm_ret (k : Bool) (s : State) : (cmdArm k s).ret = s.ret := rfl
@[simp] theorem cmdArm_params (k : Bool) (s : State) : (cmdArm k s).params = s.params := rfl
@[simp] theorem cmdArm_portWord (k : Bool) (s : State) : (cmdArm k s).portWord = s.portWord := rfl
@[simp] theorem cmdArm_app (k : Bool) (s : State) : (cmdArm k s).app = s.app := rfl
@[simp] theorem cmdArm_callbacks (k : Bool) (s : State) : (cmdArm k s).callbacks = s.callbacks := rfl
@[simp] theorem cmdArm_envMoves (k : Bool) (s : State) : (cmdArm k s).envMoves = s.envMoves := rfl
@[simp] theorem cmdArm_turns (k : Bool) (s : State) : (cmdArm k s).turns = s.turns := rfl

@[simp] theorem cmdStop_inst (s : State) : (cmdStop s).inst = s.inst := rfl
@[simp] theorem cmdStop_cr (s : State) : (cmdStop s).cr = ⟨false, s.cr.ea, false, true, s.cr.wc, true, s.cr.ie⟩ := rfl
@[simp] theorem cmdStop_sr (s : State) : (cmdStop s).sr = s.sr := rfl
@[simp] theorem cmdStop_dr (s : State) : (cmdStop s).dr = s.dr := rfl
@[simp] theorem cmdStop_ar (s : State) : (cmdStop s).ar = s.ar := rfl
@[simp] theorem cmdStop_amr (s : State) : (cmdStop s).amr = s.amr := rfl
@[simp] theorem cmdStop_br (s : State) : (cmdStop s).br = s.br := rfl
@[simp] theorem cmdStop_env (s : State) : (cmdStop s).env = s.launch .stop := rfl
@[simp] theorem cmdStop_gie (s : State) : (cmdStop s).gie = s.gie := rfl
@[simp] theorem cmdStop_inHandler (s : State) : (cmdStop s).inHandler = s.inHandler := rfl
@[simp] theorem cmdStop_halted (s : State) : (cmdStop s).halted = s.halted := rfl
@[simp] theorem cmdStop_dead (s : State) : (cmdStop s).dead = s.dead := rfl
@[simp] theorem cmdStop_delivering (s : State) : (cmdStop s).delivering = s.delivering := rfl
@[simp] theorem cmdStop_wire (s : State) : (cmdStop s).wire = s.wire := rfl
@[simp] theorem cmdStop_events (s : State) : (cmdStop s).events = s.events := rfl
@[simp] theorem cmdStop_errors (s : State) : (cmdStop s).errors = s.errors := rfl
@[simp] theorem cmdStop_mem (s : State) : (cmdStop s).mem = s.mem := rfl
@[simp] theorem cmdStop_host (s : State) : (cmdStop s).host = s.host := rfl
@[simp] theorem cmdStop_seq (s : State) : (cmdStop s).seq = s.seq := rfl
@[simp] theorem cmdStop_ret (s : State) : (cmdStop s).ret = s.ret := rfl
@[simp] theorem cmdStop_params (s : State) : (cmdStop s).params = s.params := rfl
@[simp] theorem cmdStop_portWord (s : State) : (cmdStop s).portWord = s.portWord := rfl
@[simp] theorem cmdStop_app (s : State) : (cmdStop s).app = s.app := rfl
@[simp] theorem cmdStop_callbacks (s : State) : (cmdStop s).callbacks = s.callbacks := rfl
@[simp] theorem cmdStop_envMoves (s : State) : (cmdStop s).envMoves = s.envMoves := rfl
@[simp] theorem cmdStop_turns (s : State) : (cmdStop s).turns = s.turns := rfl

@[simp] theorem cmdRearm_inst (s : State) : (cmdRearm s).inst = s.inst := rfl
@[simp] theorem cmdRearm_cr (s : State) : (cmdRearm s).cr = ⟨false, s.cr.ea, false, false, s.cr.wc, true, s.cr.ie⟩ := rfl
@[simp] theorem cmdRearm_sr (s : State) : (cmdRearm s).sr = s.sr := rfl
@[simp] theorem cmdRearm_dr (s : State) : (cmdRearm s).dr = s.dr := rfl
@[simp] theorem cmdRearm_ar (s : State) : (cmdRearm s).ar = s.ar := rfl
@[simp] theorem cmdRearm_amr (s : State) : (cmdRearm s).amr = s.amr := rfl
@[simp] theorem cmdRearm_br (s : State) : (cmdRearm s).br = s.br := rfl
@[simp] theorem cmdRearm_env (s : State) : (cmdRearm s).env = s.launch .listen := rfl
@[simp] theorem cmdRearm_gie (s : State) : (cmdRearm s).gie = s.gie := rfl
@[simp] theorem cmdRearm_inHandler (s : State) : (cmdRearm s).inHandler = s.inHandler := rfl
@[simp] theorem cmdRearm_halted (s : State) : (cmdRearm s).halted = s.halted := rfl
@[simp] theorem cmdRearm_dead (s : State) : (cmdRearm s).dead = s.dead := rfl
@[simp] theorem cmdRearm_delivering (s : State) : (cmdRearm s).delivering = s.delivering := rfl
@[simp] theorem cmdRearm_wire (s : State) : (cmdRearm s).wire = s.wire := rfl
@[simp] theorem cmdRearm_events (s : State) : (cmdRearm s).events = s.events := rfl
@[simp] theorem cmdRearm_errors (s : State) : (cmdRearm s).errors = s.errors := rfl
@[simp] theorem cmdRearm_mem (s : State) : (cmdRearm s).mem = s.mem := rfl
@[simp] theorem cmdRearm_host (s : State) : (cmdRearm s).host = s.host := rfl
@[simp] theorem cmdRearm_seq (s : State) : (cmdRearm s).seq = s.seq := rfl
@[simp] theorem cmdRearm_ret (s : State) : (cmdRearm s).ret = s.ret := rfl
@[simp] theorem cmdRearm_params (s : State) : (cmdRearm s).params = s.params := rfl
@[simp] theorem cmdRearm_portWord (s : State) : (cmdRearm s).portWord = s.portWord := rfl
@[simp] theorem cmdRearm_app (s : State) : (cmdRearm s).app = s.app := rfl
@[simp] theorem cmdRearm_callbacks (s : State) : (cmdRearm s).callbacks = s.callbacks := rfl
@[simp] theorem cmdRearm_envMoves (s : State) : (cmdRearm s).envMoves = s.envMoves := rfl
@[simp] theorem cmdRearm_turns (s : State) : (cmdRearm s).turns = s.turns := rfl

@[simp] theorem closeSendOp_inst (s : State) : (closeSendOp s).inst = { s.inst with state := .ready, pTx := null, txLen := 0#16 } := rfl
@[simp] theorem closeSendOp_cr (s : State) : (closeSendOp s).cr = { s.cr with ie := false } := rfl
@[simp] theorem closeSendOp_sr (s : State) : (closeSendOp s).sr = s.sr := rfl
@[simp] theorem closeSendOp_dr (s : State) : (closeSendOp s).dr = s.dr := rfl
@[simp] theorem closeSendOp_ar (s : State) : (closeSendOp s).ar = s.ar := rfl
@[simp] theorem closeSendOp_amr (s : State) : (closeSendOp s).amr = s.amr := rfl
@[simp] theorem closeSendOp_br (s : State) : (closeSendOp s).br = s.br := rfl
@[simp] theorem closeSendOp_env (s : State) : (closeSendOp s).env = s.env := rfl
@[simp] theorem closeSendOp_gie (s : State) : (closeSendOp s).gie = s.gie := rfl
@[simp] theorem closeSendOp_inHandler (s : State) : (closeSendOp s).inHandler = s.inHandler := rfl
@[simp] theorem closeSendOp_halted (s : State) : (closeSendOp s).halted = s.halted := rfl
@[simp] theorem closeSendOp_dead (s : State) : (closeSendOp s).dead = false := rfl
@[simp] theorem closeSendOp_delivering (s : State) : (closeSendOp s).delivering = s.delivering := rfl
@[simp] theorem closeSendOp_wire (s : State) : (closeSendOp s).wire = s.wire := rfl
@[simp] theorem closeSendOp_events (s : State) : (closeSendOp s).events = s.events := rfl
@[simp] theorem closeSendOp_errors (s : State) : (closeSendOp s).errors = s.errors := rfl
@[simp] theorem closeSendOp_mem (s : State) : (closeSendOp s).mem = s.mem := rfl
@[simp] theorem closeSendOp_host (s : State) : (closeSendOp s).host = s.host := rfl
@[simp] theorem closeSendOp_seq (s : State) : (closeSendOp s).seq = s.seq := rfl
@[simp] theorem closeSendOp_ret (s : State) : (closeSendOp s).ret = s.ret := rfl
@[simp] theorem closeSendOp_params (s : State) : (closeSendOp s).params = s.params := rfl
@[simp] theorem closeSendOp_portWord (s : State) : (closeSendOp s).portWord = s.portWord := rfl
@[simp] theorem closeSendOp_app (s : State) : (closeSendOp s).app = s.app := rfl
@[simp] theorem closeSendOp_callbacks (s : State) : (closeSendOp s).callbacks = s.callbacks := rfl
@[simp] theorem closeSendOp_envMoves (s : State) : (closeSendOp s).envMoves = s.envMoves := rfl
@[simp] theorem closeSendOp_turns (s : State) : (closeSendOp s).turns = s.turns := rfl

@[simp] theorem closeReceiveOp_inst (s : State) : (closeReceiveOp s).inst = { s.inst with state := .ready, pRx := null, rxLen := 0#16 } := rfl
@[simp] theorem closeReceiveOp_cr (s : State) : (closeReceiveOp s).cr = { s.cr with ie := false } := rfl
@[simp] theorem closeReceiveOp_sr (s : State) : (closeReceiveOp s).sr = s.sr := rfl
@[simp] theorem closeReceiveOp_dr (s : State) : (closeReceiveOp s).dr = s.dr := rfl
@[simp] theorem closeReceiveOp_ar (s : State) : (closeReceiveOp s).ar = s.ar := rfl
@[simp] theorem closeReceiveOp_amr (s : State) : (closeReceiveOp s).amr = s.amr := rfl
@[simp] theorem closeReceiveOp_br (s : State) : (closeReceiveOp s).br = s.br := rfl
@[simp] theorem closeReceiveOp_env (s : State) : (closeReceiveOp s).env = s.env := rfl
@[simp] theorem closeReceiveOp_gie (s : State) : (closeReceiveOp s).gie = s.gie := rfl
@[simp] theorem closeReceiveOp_inHandler (s : State) : (closeReceiveOp s).inHandler = s.inHandler := rfl
@[simp] theorem closeReceiveOp_halted (s : State) : (closeReceiveOp s).halted = s.halted := rfl
@[simp] theorem closeReceiveOp_dead (s : State) : (closeReceiveOp s).dead = false := rfl
@[simp] theorem closeReceiveOp_delivering (s : State) : (closeReceiveOp s).delivering = s.delivering := rfl
@[simp] theorem closeReceiveOp_wire (s : State) : (closeReceiveOp s).wire = s.wire := rfl
@[simp] theorem closeReceiveOp_events (s : State) : (closeReceiveOp s).events = s.events := rfl
@[simp] theorem closeReceiveOp_errors (s : State) : (closeReceiveOp s).errors = s.errors := rfl
@[simp] theorem closeReceiveOp_mem (s : State) : (closeReceiveOp s).mem = s.mem := rfl
@[simp] theorem closeReceiveOp_host (s : State) : (closeReceiveOp s).host = s.host := rfl
@[simp] theorem closeReceiveOp_seq (s : State) : (closeReceiveOp s).seq = s.seq := rfl
@[simp] theorem closeReceiveOp_ret (s : State) : (closeReceiveOp s).ret = s.ret := rfl
@[simp] theorem closeReceiveOp_params (s : State) : (closeReceiveOp s).params = s.params := rfl
@[simp] theorem closeReceiveOp_portWord (s : State) : (closeReceiveOp s).portWord = s.portWord := rfl
@[simp] theorem closeReceiveOp_app (s : State) : (closeReceiveOp s).app = s.app := rfl
@[simp] theorem closeReceiveOp_callbacks (s : State) : (closeReceiveOp s).callbacks = s.callbacks := rfl
@[simp] theorem closeReceiveOp_envMoves (s : State) : (closeReceiveOp s).envMoves = s.envMoves := rfl
@[simp] theorem closeReceiveOp_turns (s : State) : (closeReceiveOp s).turns = s.turns := rfl

@[simp] theorem enterHandler_inst (s : State) : (enterHandler s).inst = s.inst := rfl
@[simp] theorem enterHandler_cr (s : State) : (enterHandler s).cr = s.cr := rfl
@[simp] theorem enterHandler_sr (s : State) : (enterHandler s).sr = s.sr := rfl
@[simp] theorem enterHandler_dr (s : State) : (enterHandler s).dr = s.dr := rfl
@[simp] theorem enterHandler_ar (s : State) : (enterHandler s).ar = s.ar := rfl
@[simp] theorem enterHandler_amr (s : State) : (enterHandler s).amr = s.amr := rfl
@[simp] theorem enterHandler_br (s : State) : (enterHandler s).br = s.br := rfl
@[simp] theorem enterHandler_env (s : State) : (enterHandler s).env = s.env := rfl
@[simp] theorem enterHandler_gie (s : State) : (enterHandler s).gie = s.gie := rfl
@[simp] theorem enterHandler_inHandler (s : State) : (enterHandler s).inHandler = true := rfl
@[simp] theorem enterHandler_halted (s : State) : (enterHandler s).halted = s.halted := rfl
@[simp] theorem enterHandler_dead (s : State) : (enterHandler s).dead = s.dead := rfl
@[simp] theorem enterHandler_delivering (s : State) : (enterHandler s).delivering = s.delivering := rfl
@[simp] theorem enterHandler_wire (s : State) : (enterHandler s).wire = s.wire := rfl
@[simp] theorem enterHandler_events (s : State) : (enterHandler s).events = s.events := rfl
@[simp] theorem enterHandler_errors (s : State) : (enterHandler s).errors = s.errors := rfl
@[simp] theorem enterHandler_mem (s : State) : (enterHandler s).mem = s.mem := rfl
@[simp] theorem enterHandler_host (s : State) : (enterHandler s).host = s.host := rfl
@[simp] theorem enterHandler_seq (s : State) : (enterHandler s).seq = s.seq := rfl
@[simp] theorem enterHandler_ret (s : State) : (enterHandler s).ret = s.ret := rfl
@[simp] theorem enterHandler_params (s : State) : (enterHandler s).params = s.params := rfl
@[simp] theorem enterHandler_portWord (s : State) : (enterHandler s).portWord = s.portWord := rfl
@[simp] theorem enterHandler_app (s : State) : (enterHandler s).app = s.app := rfl
@[simp] theorem enterHandler_callbacks (s : State) : (enterHandler s).callbacks = s.callbacks := rfl
@[simp] theorem enterHandler_envMoves (s : State) : (enterHandler s).envMoves = s.envMoves := rfl
@[simp] theorem enterHandler_turns (s : State) : (enterHandler s).turns = s.turns := rfl

@[simp] theorem leaveHandler_inst (s : State) : (leaveHandler s).inst = s.inst := rfl
@[simp] theorem leaveHandler_cr (s : State) : (leaveHandler s).cr = s.cr := rfl
@[simp] theorem leaveHandler_sr (s : State) : (leaveHandler s).sr = s.sr := rfl
@[simp] theorem leaveHandler_dr (s : State) : (leaveHandler s).dr = s.dr := rfl
@[simp] theorem leaveHandler_ar (s : State) : (leaveHandler s).ar = s.ar := rfl
@[simp] theorem leaveHandler_amr (s : State) : (leaveHandler s).amr = s.amr := rfl
@[simp] theorem leaveHandler_br (s : State) : (leaveHandler s).br = s.br := rfl
@[simp] theorem leaveHandler_env (s : State) : (leaveHandler s).env = s.env := rfl
@[simp] theorem leaveHandler_gie (s : State) : (leaveHandler s).gie = s.gie := rfl
@[simp] theorem leaveHandler_inHandler (s : State) : (leaveHandler s).inHandler = false := rfl
@[simp] theorem leaveHandler_halted (s : State) : (leaveHandler s).halted = s.halted := rfl
@[simp] theorem leaveHandler_dead (s : State) : (leaveHandler s).dead = s.dead := rfl
@[simp] theorem leaveHandler_delivering (s : State) : (leaveHandler s).delivering = s.delivering := rfl
@[simp] theorem leaveHandler_wire (s : State) : (leaveHandler s).wire = s.wire := rfl
@[simp] theorem leaveHandler_events (s : State) : (leaveHandler s).events = s.events := rfl
@[simp] theorem leaveHandler_errors (s : State) : (leaveHandler s).errors = s.errors := rfl
@[simp] theorem leaveHandler_mem (s : State) : (leaveHandler s).mem = s.mem := rfl
@[simp] theorem leaveHandler_host (s : State) : (leaveHandler s).host = s.host := rfl
@[simp] theorem leaveHandler_seq (s : State) : (leaveHandler s).seq = s.seq := rfl
@[simp] theorem leaveHandler_ret (s : State) : (leaveHandler s).ret = s.ret := rfl
@[simp] theorem leaveHandler_params (s : State) : (leaveHandler s).params = s.params := rfl
@[simp] theorem leaveHandler_portWord (s : State) : (leaveHandler s).portWord = s.portWord := rfl
@[simp] theorem leaveHandler_app (s : State) : (leaveHandler s).app = s.app := rfl
@[simp] theorem leaveHandler_callbacks (s : State) : (leaveHandler s).callbacks = s.callbacks := rfl
@[simp] theorem leaveHandler_envMoves (s : State) : (leaveHandler s).envMoves = s.envMoves := rfl
@[simp] theorem leaveHandler_turns (s : State) : (leaveHandler s).turns = s.turns := rfl

@[simp] theorem raiseError_inst (e : ErrorCode) (s : State) : (raiseError e s).inst = s.inst := rfl
@[simp] theorem raiseError_cr (e : ErrorCode) (s : State) : (raiseError e s).cr = s.cr := rfl
@[simp] theorem raiseError_sr (e : ErrorCode) (s : State) : (raiseError e s).sr = s.sr := rfl
@[simp] theorem raiseError_dr (e : ErrorCode) (s : State) : (raiseError e s).dr = s.dr := rfl
@[simp] theorem raiseError_ar (e : ErrorCode) (s : State) : (raiseError e s).ar = s.ar := rfl
@[simp] theorem raiseError_amr (e : ErrorCode) (s : State) : (raiseError e s).amr = s.amr := rfl
@[simp] theorem raiseError_br (e : ErrorCode) (s : State) : (raiseError e s).br = s.br := rfl
@[simp] theorem raiseError_env (e : ErrorCode) (s : State) : (raiseError e s).env = s.env := rfl
@[simp] theorem raiseError_gie (e : ErrorCode) (s : State) : (raiseError e s).gie = s.gie := rfl
@[simp] theorem raiseError_inHandler (e : ErrorCode) (s : State) : (raiseError e s).inHandler = s.inHandler := rfl
@[simp] theorem raiseError_halted (e : ErrorCode) (s : State) : (raiseError e s).halted = (s.halted || !s.params.errorHandlerReturns) := rfl
@[simp] theorem raiseError_dead (e : ErrorCode) (s : State) : (raiseError e s).dead = s.dead := rfl
@[simp] theorem raiseError_delivering (e : ErrorCode) (s : State) : (raiseError e s).delivering = s.delivering := rfl
@[simp] theorem raiseError_wire (e : ErrorCode) (s : State) : (raiseError e s).wire = s.wire := rfl
@[simp] theorem raiseError_events (e : ErrorCode) (s : State) : (raiseError e s).events = s.events := rfl
@[simp] theorem raiseError_errors (e : ErrorCode) (s : State) : (raiseError e s).errors = s.errors ++ [e] := rfl
@[simp] theorem raiseError_mem (e : ErrorCode) (s : State) : (raiseError e s).mem = s.mem := rfl
@[simp] theorem raiseError_host (e : ErrorCode) (s : State) : (raiseError e s).host = s.host := rfl
@[simp] theorem raiseError_seq (e : ErrorCode) (s : State) : (raiseError e s).seq = s.seq := rfl
@[simp] theorem raiseError_ret (e : ErrorCode) (s : State) : (raiseError e s).ret = s.ret := rfl
@[simp] theorem raiseError_params (e : ErrorCode) (s : State) : (raiseError e s).params = s.params := rfl
@[simp] theorem raiseError_portWord (e : ErrorCode) (s : State) : (raiseError e s).portWord = s.portWord := rfl
@[simp] theorem raiseError_app (e : ErrorCode) (s : State) : (raiseError e s).app = s.app := rfl
@[simp] theorem raiseError_callbacks (e : ErrorCode) (s : State) : (raiseError e s).callbacks = s.callbacks := rfl
@[simp] theorem raiseError_envMoves (e : ErrorCode) (s : State) : (raiseError e s).envMoves = s.envMoves := rfl
@[simp] theorem raiseError_turns (e : ErrorCode) (s : State) : (raiseError e s).turns = s.turns := rfl

@[simp] theorem State.storeAt_inst (s : State) (p : Ptr) (b : Byte) : (s.storeAt p b).inst = s.inst := rfl
@[simp] theorem State.storeAt_cr (s : State) (p : Ptr) (b : Byte) : (s.storeAt p b).cr = s.cr := rfl
@[simp] theorem State.storeAt_sr (s : State) (p : Ptr) (b : Byte) : (s.storeAt p b).sr = s.sr := rfl
@[simp] theorem State.storeAt_dr (s : State) (p : Ptr) (b : Byte) : (s.storeAt p b).dr = s.dr := rfl
@[simp] theorem State.storeAt_ar (s : State) (p : Ptr) (b : Byte) : (s.storeAt p b).ar = s.ar := rfl
@[simp] theorem State.storeAt_amr (s : State) (p : Ptr) (b : Byte) : (s.storeAt p b).amr = s.amr := rfl
@[simp] theorem State.storeAt_br (s : State) (p : Ptr) (b : Byte) : (s.storeAt p b).br = s.br := rfl
@[simp] theorem State.storeAt_env (s : State) (p : Ptr) (b : Byte) : (s.storeAt p b).env = s.env := rfl
@[simp] theorem State.storeAt_gie (s : State) (p : Ptr) (b : Byte) : (s.storeAt p b).gie = s.gie := rfl
@[simp] theorem State.storeAt_inHandler (s : State) (p : Ptr) (b : Byte) : (s.storeAt p b).inHandler = s.inHandler := rfl
@[simp] theorem State.storeAt_halted (s : State) (p : Ptr) (b : Byte) : (s.storeAt p b).halted = s.halted := rfl
@[simp] theorem State.storeAt_dead (s : State) (p : Ptr) (b : Byte) : (s.storeAt p b).dead = s.dead := rfl
@[simp] theorem State.storeAt_delivering (s : State) (p : Ptr) (b : Byte) : (s.storeAt p b).delivering = s.delivering := rfl
@[simp] theorem State.storeAt_wire (s : State) (p : Ptr) (b : Byte) : (s.storeAt p b).wire = s.wire := rfl
@[simp] theorem State.storeAt_events (s : State) (p : Ptr) (b : Byte) : (s.storeAt p b).events = s.events := rfl
@[simp] theorem State.storeAt_errors (s : State) (p : Ptr) (b : Byte) : (s.storeAt p b).errors = s.errors := rfl
@[simp] theorem State.storeAt_mem (s : State) (p : Ptr) (b : Byte) : (s.storeAt p b).mem = s.mem.write p.toNat b := rfl
@[simp] theorem State.storeAt_host (s : State) (p : Ptr) (b : Byte) : (s.storeAt p b).host = s.host := rfl
@[simp] theorem State.storeAt_seq (s : State) (p : Ptr) (b : Byte) : (s.storeAt p b).seq = s.seq := rfl
@[simp] theorem State.storeAt_ret (s : State) (p : Ptr) (b : Byte) : (s.storeAt p b).ret = s.ret := rfl
@[simp] theorem State.storeAt_params (s : State) (p : Ptr) (b : Byte) : (s.storeAt p b).params = s.params := rfl
@[simp] theorem State.storeAt_portWord (s : State) (p : Ptr) (b : Byte) : (s.storeAt p b).portWord = s.portWord := rfl
@[simp] theorem State.storeAt_app (s : State) (p : Ptr) (b : Byte) : (s.storeAt p b).app = s.app := rfl
@[simp] theorem State.storeAt_callbacks (s : State) (p : Ptr) (b : Byte) : (s.storeAt p b).callbacks = s.callbacks := rfl
@[simp] theorem State.storeAt_envMoves (s : State) (p : Ptr) (b : Byte) : (s.storeAt p b).envMoves = s.envMoves := rfl
@[simp] theorem State.storeAt_turns (s : State) (p : Ptr) (b : Byte) : (s.storeAt p b).turns = s.turns := rfl

@[simp] theorem State.advanceTx_inst (s : State) : s.advanceTx.inst = { s.inst with pTx := s.inst.pTx + 1#16, txLen := s.inst.txLen - 1#16 } := rfl
@[simp] theorem State.advanceTx_cr (s : State) : s.advanceTx.cr = s.cr := rfl
@[simp] theorem State.advanceTx_sr (s : State) : s.advanceTx.sr = s.sr := rfl
@[simp] theorem State.advanceTx_dr (s : State) : s.advanceTx.dr = s.dr := rfl
@[simp] theorem State.advanceTx_ar (s : State) : s.advanceTx.ar = s.ar := rfl
@[simp] theorem State.advanceTx_amr (s : State) : s.advanceTx.amr = s.amr := rfl
@[simp] theorem State.advanceTx_br (s : State) : s.advanceTx.br = s.br := rfl
@[simp] theorem State.advanceTx_env (s : State) : s.advanceTx.env = s.env := rfl
@[simp] theorem State.advanceTx_gie (s : State) : s.advanceTx.gie = s.gie := rfl
@[simp] theorem State.advanceTx_inHandler (s : State) : s.advanceTx.inHandler = s.inHandler := rfl
@[simp] theorem State.advanceTx_halted (s : State) : s.advanceTx.halted = s.halted := rfl
@[simp] theorem State.advanceTx_dead (s : State) : s.advanceTx.dead = s.dead := rfl
@[simp] theorem State.advanceTx_delivering (s : State) : s.advanceTx.delivering = s.delivering := rfl
@[simp] theorem State.advanceTx_wire (s : State) : s.advanceTx.wire = s.wire := rfl
@[simp] theorem State.advanceTx_events (s : State) : s.advanceTx.events = s.events := rfl
@[simp] theorem State.advanceTx_errors (s : State) : s.advanceTx.errors = s.errors := rfl
@[simp] theorem State.advanceTx_mem (s : State) : s.advanceTx.mem = s.mem := rfl
@[simp] theorem State.advanceTx_host (s : State) : s.advanceTx.host = s.host := rfl
@[simp] theorem State.advanceTx_seq (s : State) : s.advanceTx.seq = s.seq := rfl
@[simp] theorem State.advanceTx_ret (s : State) : s.advanceTx.ret = s.ret := rfl
@[simp] theorem State.advanceTx_params (s : State) : s.advanceTx.params = s.params := rfl
@[simp] theorem State.advanceTx_portWord (s : State) : s.advanceTx.portWord = s.portWord := rfl
@[simp] theorem State.advanceTx_app (s : State) : s.advanceTx.app = s.app := rfl
@[simp] theorem State.advanceTx_callbacks (s : State) : s.advanceTx.callbacks = s.callbacks := rfl
@[simp] theorem State.advanceTx_envMoves (s : State) : s.advanceTx.envMoves = s.envMoves := rfl
@[simp] theorem State.advanceTx_turns (s : State) : s.advanceTx.turns = s.turns := rfl

@[simp] theorem State.advanceRx_inst (s : State) : s.advanceRx.inst = { s.inst with pRx := s.inst.pRx + 1#16, rxLen := s.inst.rxLen - 1#16 } := rfl
@[simp] theorem State.advanceRx_cr (s : State) : s.advanceRx.cr = s.cr := rfl
@[simp] theorem State.advanceRx_sr (s : State) : s.advanceRx.sr = s.sr := rfl
@[simp] theorem State.advanceRx_dr (s : State) : s.advanceRx.dr = s.dr := rfl
@[simp] theorem State.advanceRx_ar (s : State) : s.advanceRx.ar = s.ar := rfl
@[simp] theorem State.advanceRx_amr (s : State) : s.advanceRx.amr = s.amr := rfl
@[simp] theorem State.advanceRx_br (s : State) : s.advanceRx.br = s.br := rfl
@[simp] theorem State.advanceRx_env (s : State) : s.advanceRx.env = s.env := rfl
@[simp] theorem State.advanceRx_gie (s : State) : s.advanceRx.gie = s.gie := rfl
@[simp] theorem State.advanceRx_inHandler (s : State) : s.advanceRx.inHandler = s.inHandler := rfl
@[simp] theorem State.advanceRx_halted (s : State) : s.advanceRx.halted = s.halted := rfl
@[simp] theorem State.advanceRx_dead (s : State) : s.advanceRx.dead = s.dead := rfl
@[simp] theorem State.advanceRx_delivering (s : State) : s.advanceRx.delivering = s.delivering := rfl
@[simp] theorem State.advanceRx_wire (s : State) : s.advanceRx.wire = s.wire := rfl
@[simp] theorem State.advanceRx_events (s : State) : s.advanceRx.events = s.events := rfl
@[simp] theorem State.advanceRx_errors (s : State) : s.advanceRx.errors = s.errors := rfl
@[simp] theorem State.advanceRx_mem (s : State) : s.advanceRx.mem = s.mem := rfl
@[simp] theorem State.advanceRx_host (s : State) : s.advanceRx.host = s.host := rfl
@[simp] theorem State.advanceRx_seq (s : State) : s.advanceRx.seq = s.seq := rfl
@[simp] theorem State.advanceRx_ret (s : State) : s.advanceRx.ret = s.ret := rfl
@[simp] theorem State.advanceRx_params (s : State) : s.advanceRx.params = s.params := rfl
@[simp] theorem State.advanceRx_portWord (s : State) : s.advanceRx.portWord = s.portWord := rfl
@[simp] theorem State.advanceRx_app (s : State) : s.advanceRx.app = s.app := rfl
@[simp] theorem State.advanceRx_callbacks (s : State) : s.advanceRx.callbacks = s.callbacks := rfl
@[simp] theorem State.advanceRx_envMoves (s : State) : s.advanceRx.envMoves = s.envMoves := rfl
@[simp] theorem State.advanceRx_turns (s : State) : s.advanceRx.turns = s.turns := rfl

@[simp] theorem State.hold_inst (s : State) (h : HostCtl) : (s.hold h).inst = s.inst := rfl
@[simp] theorem State.hold_cr (s : State) (h : HostCtl) : (s.hold h).cr = s.cr := rfl
@[simp] theorem State.hold_sr (s : State) (h : HostCtl) : (s.hold h).sr = s.sr := rfl
@[simp] theorem State.hold_dr (s : State) (h : HostCtl) : (s.hold h).dr = s.dr := rfl
@[simp] theorem State.hold_ar (s : State) (h : HostCtl) : (s.hold h).ar = s.ar := rfl
@[simp] theorem State.hold_amr (s : State) (h : HostCtl) : (s.hold h).amr = s.amr := rfl
@[simp] theorem State.hold_br (s : State) (h : HostCtl) : (s.hold h).br = s.br := rfl
@[simp] theorem State.hold_env (s : State) (h : HostCtl) : (s.hold h).env = s.env := rfl
@[simp] theorem State.hold_gie (s : State) (h : HostCtl) : (s.hold h).gie = s.gie := rfl
@[simp] theorem State.hold_inHandler (s : State) (h : HostCtl) : (s.hold h).inHandler = s.inHandler := rfl
@[simp] theorem State.hold_halted (s : State) (h : HostCtl) : (s.hold h).halted = s.halted := rfl
@[simp] theorem State.hold_dead (s : State) (h : HostCtl) : (s.hold h).dead = s.dead := rfl
@[simp] theorem State.hold_delivering (s : State) (h : HostCtl) : (s.hold h).delivering = s.delivering := rfl
@[simp] theorem State.hold_wire (s : State) (h : HostCtl) : (s.hold h).wire = s.wire := rfl
@[simp] theorem State.hold_events (s : State) (h : HostCtl) : (s.hold h).events = s.events := rfl
@[simp] theorem State.hold_errors (s : State) (h : HostCtl) : (s.hold h).errors = s.errors := rfl
@[simp] theorem State.hold_mem (s : State) (h : HostCtl) : (s.hold h).mem = s.mem := rfl
@[simp] theorem State.hold_host (s : State) (h : HostCtl) : (s.hold h).host = h := rfl
@[simp] theorem State.hold_seq (s : State) (h : HostCtl) : (s.hold h).seq = s.seq := rfl
@[simp] theorem State.hold_ret (s : State) (h : HostCtl) : (s.hold h).ret = s.ret := rfl
@[simp] theorem State.hold_params (s : State) (h : HostCtl) : (s.hold h).params = s.params := rfl
@[simp] theorem State.hold_portWord (s : State) (h : HostCtl) : (s.hold h).portWord = s.portWord := rfl
@[simp] theorem State.hold_app (s : State) (h : HostCtl) : (s.hold h).app = s.app := rfl
@[simp] theorem State.hold_callbacks (s : State) (h : HostCtl) : (s.hold h).callbacks = s.callbacks := rfl
@[simp] theorem State.hold_envMoves (s : State) (h : HostCtl) : (s.hold h).envMoves = s.envMoves := rfl
@[simp] theorem State.hold_turns (s : State) (h : HostCtl) : (s.hold h).turns = s.turns := rfl

@[simp] theorem State.sequence_inst (s : State) (q : HostSeq) : (s.sequence q).inst = s.inst := rfl
@[simp] theorem State.sequence_cr (s : State) (q : HostSeq) : (s.sequence q).cr = s.cr := rfl
@[simp] theorem State.sequence_sr (s : State) (q : HostSeq) : (s.sequence q).sr = s.sr := rfl
@[simp] theorem State.sequence_dr (s : State) (q : HostSeq) : (s.sequence q).dr = s.dr := rfl
@[simp] theorem State.sequence_ar (s : State) (q : HostSeq) : (s.sequence q).ar = s.ar := rfl
@[simp] theorem State.sequence_amr (s : State) (q : HostSeq) : (s.sequence q).amr = s.amr := rfl
@[simp] theorem State.sequence_br (s : State) (q : HostSeq) : (s.sequence q).br = s.br := rfl
@[simp] theorem State.sequence_env (s : State) (q : HostSeq) : (s.sequence q).env = s.env := rfl
@[simp] theorem State.sequence_gie (s : State) (q : HostSeq) : (s.sequence q).gie = s.gie := rfl
@[simp] theorem State.sequence_inHandler (s : State) (q : HostSeq) : (s.sequence q).inHandler = s.inHandler := rfl
@[simp] theorem State.sequence_halted (s : State) (q : HostSeq) : (s.sequence q).halted = s.halted := rfl
@[simp] theorem State.sequence_dead (s : State) (q : HostSeq) : (s.sequence q).dead = s.dead := rfl
@[simp] theorem State.sequence_delivering (s : State) (q : HostSeq) : (s.sequence q).delivering = s.delivering := rfl
@[simp] theorem State.sequence_wire (s : State) (q : HostSeq) : (s.sequence q).wire = s.wire := rfl
@[simp] theorem State.sequence_events (s : State) (q : HostSeq) : (s.sequence q).events = s.events := rfl
@[simp] theorem State.sequence_errors (s : State) (q : HostSeq) : (s.sequence q).errors = s.errors := rfl
@[simp] theorem State.sequence_mem (s : State) (q : HostSeq) : (s.sequence q).mem = s.mem := rfl
@[simp] theorem State.sequence_host (s : State) (q : HostSeq) : (s.sequence q).host = s.host := rfl
@[simp] theorem State.sequence_seq (s : State) (q : HostSeq) : (s.sequence q).seq = q := rfl
@[simp] theorem State.sequence_ret (s : State) (q : HostSeq) : (s.sequence q).ret = s.ret := rfl
@[simp] theorem State.sequence_params (s : State) (q : HostSeq) : (s.sequence q).params = s.params := rfl
@[simp] theorem State.sequence_portWord (s : State) (q : HostSeq) : (s.sequence q).portWord = s.portWord := rfl
@[simp] theorem State.sequence_app (s : State) (q : HostSeq) : (s.sequence q).app = s.app := rfl
@[simp] theorem State.sequence_callbacks (s : State) (q : HostSeq) : (s.sequence q).callbacks = s.callbacks := rfl
@[simp] theorem State.sequence_envMoves (s : State) (q : HostSeq) : (s.sequence q).envMoves = s.envMoves := rfl
@[simp] theorem State.sequence_turns (s : State) (q : HostSeq) : (s.sequence q).turns = s.turns := rfl

@[simp] theorem beginDelivery_inst (ev : Event) (s : State) : (beginDelivery ev s).inst = s.inst := rfl
@[simp] theorem beginDelivery_cr (ev : Event) (s : State) : (beginDelivery ev s).cr = s.cr := rfl
@[simp] theorem beginDelivery_sr (ev : Event) (s : State) : (beginDelivery ev s).sr = s.sr := rfl
@[simp] theorem beginDelivery_dr (ev : Event) (s : State) : (beginDelivery ev s).dr = s.dr := rfl
@[simp] theorem beginDelivery_ar (ev : Event) (s : State) : (beginDelivery ev s).ar = s.ar := rfl
@[simp] theorem beginDelivery_amr (ev : Event) (s : State) : (beginDelivery ev s).amr = s.amr := rfl
@[simp] theorem beginDelivery_br (ev : Event) (s : State) : (beginDelivery ev s).br = s.br := rfl
@[simp] theorem beginDelivery_env (ev : Event) (s : State) : (beginDelivery ev s).env = s.env := rfl
@[simp] theorem beginDelivery_gie (ev : Event) (s : State) : (beginDelivery ev s).gie = s.gie := rfl
@[simp] theorem beginDelivery_inHandler (ev : Event) (s : State) : (beginDelivery ev s).inHandler = s.inHandler := rfl
@[simp] theorem beginDelivery_halted (ev : Event) (s : State) : (beginDelivery ev s).halted = s.halted := rfl
@[simp] theorem beginDelivery_dead (ev : Event) (s : State) : (beginDelivery ev s).dead = s.dead := rfl
@[simp] theorem beginDelivery_delivering (ev : Event) (s : State) : (beginDelivery ev s).delivering = some ev := rfl
@[simp] theorem beginDelivery_wire (ev : Event) (s : State) : (beginDelivery ev s).wire = s.wire := rfl
@[simp] theorem beginDelivery_events (ev : Event) (s : State) : (beginDelivery ev s).events = s.events ++ [ev] := rfl
@[simp] theorem beginDelivery_errors (ev : Event) (s : State) : (beginDelivery ev s).errors = s.errors := rfl
@[simp] theorem beginDelivery_mem (ev : Event) (s : State) : (beginDelivery ev s).mem = s.mem := rfl
@[simp] theorem beginDelivery_host (ev : Event) (s : State) : (beginDelivery ev s).host = s.host := rfl
@[simp] theorem beginDelivery_seq (ev : Event) (s : State) : (beginDelivery ev s).seq = s.seq := rfl
@[simp] theorem beginDelivery_ret (ev : Event) (s : State) : (beginDelivery ev s).ret = s.ret := rfl
@[simp] theorem beginDelivery_params (ev : Event) (s : State) : (beginDelivery ev s).params = s.params := rfl
@[simp] theorem beginDelivery_portWord (ev : Event) (s : State) : (beginDelivery ev s).portWord = s.portWord := rfl
@[simp] theorem beginDelivery_app (ev : Event) (s : State) : (beginDelivery ev s).app = s.app := rfl
@[simp] theorem beginDelivery_callbacks (ev : Event) (s : State) : (beginDelivery ev s).callbacks = s.callbacks.tail := rfl
@[simp] theorem beginDelivery_envMoves (ev : Event) (s : State) : (beginDelivery ev s).envMoves = s.envMoves := rfl
@[simp] theorem beginDelivery_turns (ev : Event) (s : State) : (beginDelivery ev s).turns = s.turns := rfl

@[simp] theorem endDelivery_inst (s : State) : (endDelivery s).inst = s.inst := rfl
@[simp] theorem endDelivery_cr (s : State) : (endDelivery s).cr = s.cr := rfl
@[simp] theorem endDelivery_sr (s : State) : (endDelivery s).sr = s.sr := rfl
@[simp] theorem endDelivery_dr (s : State) : (endDelivery s).dr = s.dr := rfl
@[simp] theorem endDelivery_ar (s : State) : (endDelivery s).ar = s.ar := rfl
@[simp] theorem endDelivery_amr (s : State) : (endDelivery s).amr = s.amr := rfl
@[simp] theorem endDelivery_br (s : State) : (endDelivery s).br = s.br := rfl
@[simp] theorem endDelivery_env (s : State) : (endDelivery s).env = s.env := rfl
@[simp] theorem endDelivery_gie (s : State) : (endDelivery s).gie = s.gie := rfl
@[simp] theorem endDelivery_inHandler (s : State) : (endDelivery s).inHandler = s.inHandler := rfl
@[simp] theorem endDelivery_halted (s : State) : (endDelivery s).halted = s.halted := rfl
@[simp] theorem endDelivery_dead (s : State) : (endDelivery s).dead = s.dead := rfl
@[simp] theorem endDelivery_delivering (s : State) : (endDelivery s).delivering = none := rfl
@[simp] theorem endDelivery_wire (s : State) : (endDelivery s).wire = s.wire := rfl
@[simp] theorem endDelivery_events (s : State) : (endDelivery s).events = s.events := rfl
@[simp] theorem endDelivery_errors (s : State) : (endDelivery s).errors = s.errors := rfl
@[simp] theorem endDelivery_mem (s : State) : (endDelivery s).mem = s.mem := rfl
@[simp] theorem endDelivery_host (s : State) : (endDelivery s).host = s.host := rfl
@[simp] theorem endDelivery_seq (s : State) : (endDelivery s).seq = s.seq := rfl
@[simp] theorem endDelivery_ret (s : State) : (endDelivery s).ret = s.ret := rfl
@[simp] theorem endDelivery_params (s : State) : (endDelivery s).params = s.params := rfl
@[simp] theorem endDelivery_portWord (s : State) : (endDelivery s).portWord = s.portWord := rfl
@[simp] theorem endDelivery_app (s : State) : (endDelivery s).app = s.app := rfl
@[simp] theorem endDelivery_callbacks (s : State) : (endDelivery s).callbacks = s.callbacks := rfl
@[simp] theorem endDelivery_envMoves (s : State) : (endDelivery s).envMoves = s.envMoves := rfl
@[simp] theorem endDelivery_turns (s : State) : (endDelivery s).turns = s.turns := rfl

@[simp] theorem State.complete_inst (s : State) (c : Code) : (s.complete c).inst = s.inst := rfl
@[simp] theorem State.complete_cr (s : State) (c : Code) : (s.complete c).cr = { s.cr with int := true } := rfl
@[simp] theorem State.complete_sr (s : State) (c : Code) : (s.complete c).sr = { s.sr with code := c } := rfl
@[simp] theorem State.complete_dr (s : State) (c : Code) : (s.complete c).dr = s.dr := rfl
@[simp] theorem State.complete_ar (s : State) (c : Code) : (s.complete c).ar = s.ar := rfl
@[simp] theorem State.complete_amr (s : State) (c : Code) : (s.complete c).amr = s.amr := rfl
@[simp] theorem State.complete_br (s : State) (c : Code) : (s.complete c).br = s.br := rfl
@[simp] theorem State.complete_env (s : State) (c : Code) : (s.complete c).env = { s.env with pend := .none } := rfl
@[simp] theorem State.complete_gie (s : State) (c : Code) : (s.complete c).gie = s.gie := rfl
@[simp] theorem State.complete_inHandler (s : State) (c : Code) : (s.complete c).inHandler = s.inHandler := rfl
@[simp] theorem State.complete_halted (s : State) (c : Code) : (s.complete c).halted = s.halted := rfl
@[simp] theorem State.complete_dead (s : State) (c : Code) : (s.complete c).dead = s.dead := rfl
@[simp] theorem State.complete_delivering (s : State) (c : Code) : (s.complete c).delivering = s.delivering := rfl
@[simp] theorem State.complete_wire (s : State) (c : Code) : (s.complete c).wire = s.wire := rfl
@[simp] theorem State.complete_events (s : State) (c : Code) : (s.complete c).events = s.events := rfl
@[simp] theorem State.complete_errors (s : State) (c : Code) : (s.complete c).errors = s.errors := rfl
@[simp] theorem State.complete_mem (s : State) (c : Code) : (s.complete c).mem = s.mem := rfl
@[simp] theorem State.complete_host (s : State) (c : Code) : (s.complete c).host = s.host := rfl
@[simp] theorem State.complete_seq (s : State) (c : Code) : (s.complete c).seq = s.seq := rfl
@[simp] theorem State.complete_ret (s : State) (c : Code) : (s.complete c).ret = s.ret := rfl
@[simp] theorem State.complete_params (s : State) (c : Code) : (s.complete c).params = s.params := rfl
@[simp] theorem State.complete_portWord (s : State) (c : Code) : (s.complete c).portWord = s.portWord := rfl
@[simp] theorem State.complete_app (s : State) (c : Code) : (s.complete c).app = s.app := rfl
@[simp] theorem State.complete_callbacks (s : State) (c : Code) : (s.complete c).callbacks = s.callbacks := rfl
@[simp] theorem State.complete_envMoves (s : State) (c : Code) : (s.complete c).envMoves = s.envMoves := rfl
@[simp] theorem State.complete_turns (s : State) (c : Code) : (s.complete c).turns = s.turns := rfl

@[simp] theorem State.onWire_inst (s : State) (l : List WireItem) : (s.onWire l).inst = s.inst := rfl
@[simp] theorem State.onWire_cr (s : State) (l : List WireItem) : (s.onWire l).cr = s.cr := rfl
@[simp] theorem State.onWire_sr (s : State) (l : List WireItem) : (s.onWire l).sr = s.sr := rfl
@[simp] theorem State.onWire_dr (s : State) (l : List WireItem) : (s.onWire l).dr = s.dr := rfl
@[simp] theorem State.onWire_ar (s : State) (l : List WireItem) : (s.onWire l).ar = s.ar := rfl
@[simp] theorem State.onWire_amr (s : State) (l : List WireItem) : (s.onWire l).amr = s.amr := rfl
@[simp] theorem State.onWire_br (s : State) (l : List WireItem) : (s.onWire l).br = s.br := rfl
@[simp] theorem State.onWire_env (s : State) (l : List WireItem) : (s.onWire l).env = s.env := rfl
@[simp] theorem State.onWire_gie (s : State) (l : List WireItem) : (s.onWire l).gie = s.gie := rfl
@[simp] theorem State.onWire_inHandler (s : State) (l : List WireItem) : (s.onWire l).inHandler = s.inHandler := rfl
@[simp] theorem State.onWire_halted (s : State) (l : List WireItem) : (s.onWire l).halted = s.halted := rfl
@[simp] theorem State.onWire_dead (s : State) (l : List WireItem) : (s.onWire l).dead = s.dead := rfl
@[simp] theorem State.onWire_delivering (s : State) (l : List WireItem) : (s.onWire l).delivering = s.delivering := rfl
@[simp] theorem State.onWire_wire (s : State) (l : List WireItem) : (s.onWire l).wire = s.wire ++ l := rfl
@[simp] theorem State.onWire_events (s : State) (l : List WireItem) : (s.onWire l).events = s.events := rfl
@[simp] theorem State.onWire_errors (s : State) (l : List WireItem) : (s.onWire l).errors = s.errors := rfl
@[simp] theorem State.onWire_mem (s : State) (l : List WireItem) : (s.onWire l).mem = s.mem := rfl
@[simp] theorem State.onWire_host (s : State) (l : List WireItem) : (s.onWire l).host = s.host := rfl
@[simp] theorem State.onWire_seq (s : State) (l : List WireItem) : (s.onWire l).seq = s.seq := rfl
@[simp] theorem State.onWire_ret (s : State) (l : List WireItem) : (s.onWire l).ret = s.ret := rfl
@[simp] theorem State.onWire_params (s : State) (l : List WireItem) : (s.onWire l).params = s.params := rfl
@[simp] theorem State.onWire_portWord (s : State) (l : List WireItem) : (s.onWire l).portWord = s.portWord := rfl
@[simp] theorem State.onWire_app (s : State) (l : List WireItem) : (s.onWire l).app = s.app := rfl
@[simp] theorem State.onWire_callbacks (s : State) (l : List WireItem) : (s.onWire l).callbacks = s.callbacks := rfl
@[simp] theorem State.onWire_envMoves (s : State) (l : List WireItem) : (s.onWire l).envMoves = s.envMoves := rfl
@[simp] theorem State.onWire_turns (s : State) (l : List WireItem) : (s.onWire l).turns = s.turns := rfl

end Sys2Proof.Machine
end

