-- ==== Sys2Proof/Laws/Ops.lean ====
section
/-! SUPPORT. One lemma per shared operation, saying once what it can answer. -/

namespace Sys2Proof.Machine

@[simp] theorem andThen_next (s : State) (k : State → Out) : andThen (.next s) k = k s := rfl
@[simp] theorem andThen_fault (r : Fault) (k : State → Out) : andThen (.fault r) k = .fault r := rfl
@[simp] theorem andThen_refused (r : Refusal) (k : State → Out) : andThen (.refused r) k = .refused r := rfl

/-- A sequence that answers a next state went through one. -/
theorem andThen_eq_next {o : Out} {k : State → Out} {t : State} :
    andThen o k = .next t ↔ ∃ u, o = .next u ∧ k u = .next t := by
  cases o <;> simp [andThen]

/-! What a command puts in flight (R44, R78, R99). -/

@[simp] theorem State.launch_pend (s : State) (p : Pending) : (s.launch p).pend = p := rfl
@[simp] theorem State.launch_busOwned (s : State) (p : Pending) : (s.launch p).busOwned = s.env.busOwned := rfl
@[simp] theorem State.launch_stopFirst (s : State) (p : Pending) :
    (s.launch p).stopFirst = (s.env.stopFirst || decide (s.env.pend = .stop)) := rfl
@[simp] theorem State.launch_stopSilent (s : State) (p : Pending) :
    (s.launch p).stopSilent = if p = .stop then s.stopIsSilent else s.env.stopSilent := rfl
@[simp] theorem State.launch_stopGiven (s : State) (p : Pending) :
    (s.launch p).stopGiven = (decide (p = .stop) || (s.env.stopGiven && decide (p ≠ .start))) := rfl

/-! The registers read whole (R8). -/

@[simp] theorem State.readReg_cr (s : State) : s.readReg .cr = s.cr.word := rfl
@[simp] theorem State.readReg_sr (s : State) : s.readReg .sr = s.sr.word := rfl
@[simp] theorem State.readReg_dr (s : State) : s.readReg .dr = s.dr := rfl
@[simp] theorem State.readReg_ar (s : State) : s.readReg .ar = s.ar := rfl
@[simp] theorem State.readReg_amr (s : State) : s.readReg .amr = s.amr := rfl
@[simp] theorem State.readReg_br (s : State) : s.readReg .br = s.br := rfl

theorem writeData_of_int {b : Byte} {s : State} (h : s.cr.int = true) : writeData b s = .next { s with dr := b } := by
  simp [writeData, h]

theorem cmdXmit_of_int {b : Byte} {s : State} (h : s.cr.int = true) :
    cmdXmit b s = .next ({ s with dr := b }.command s.cr.ea false false s.cr.ie (.tx b)) := by
  simp [cmdXmit, writeData, h]

theorem cmdXmit_of_not_int {b : Byte} {s : State} (h : s.cr.int = false) :
    cmdXmit b s = .fault .writeCollision := by
  simp [cmdXmit, writeData, h]

/-- What `cmd_xmit` can answer. -/
theorem cmdXmit_cases {b : Byte} {s t : State} (h : cmdXmit b s = .next t) :
    s.cr.int = true ∧ t = { s with dr := b }.command s.cr.ea false false s.cr.ie (.tx b) := by
  cases hi : s.cr.int
  · simp [cmdXmit_of_not_int hi] at h
  · rw [cmdXmit_of_int hi] at h; exact ⟨rfl, by injection h with h; exact h.symm⟩

/-- What a primitive can answer: the checks passed and its first action answered. -/
theorem primitive_cases {a b : Bool} {act : State → Out} {s t : State} (h : primitive a b act s = .next t) :
    blockingRefusal s = none ∧ a = true ∧ b = true ∧ act s = .next t := by
  unfold primitive at h
  split at h
  · simp at h
  · cases a <;> cases b <;> simp_all

theorem primitive_of_ready {act : State → Out} {s : State} (h : blockingRefusal s = none) :
    primitive true true act s = act s := by
  simp [primitive, h]

/-- The checks of a blocking operation, said once. -/
theorem blockingRefusal_none {s : State} : blockingRefusal s = none ↔
    s.cr.en = true ∧ s.inCallback = false ∧ s.inst.cfg.role = .master ∧ s.inst.state = .ready ∧
      s.handlerCouldRun = false := by
  unfold blockingRefusal State.busy
  cases hr : s.inst.cfg.role <;> cases hs : s.inst.state <;> cases s.cr.en <;> cases s.inCallback <;>
    cases s.handlerCouldRun <;> simp_all

/-- The checks of an entry point, said once. -/
theorem entryRefusal_none {addr : Byte} {s : State} : entryRefusal addr s = none ↔
    s.cr.en = true ∧ s.inst.cfg.role = .master ∧ sevenBit addr = true := by
  unfold entryRefusal
  cases hr : s.inst.cfg.role <;> cases s.cr.en <;> cases sevenBit addr <;> simp_all

/-- The checks of a buffer, said once. -/
theorem bufferRefusal_none {buf : Ptr} {len : Len} : bufferRefusal buf len = none ↔
    bufferInRange buf len = true ∧ bufferOverlaps buf len = false := by
  unfold bufferRefusal
  cases bufferInRange buf len <;> cases bufferOverlaps buf len <;> simp_all

theorem Reg.mem_all (r : Reg) : r ∈ Reg.all := by cases r <;> decide

/-- A buffer overlaps the registers when one of its bytes stands at a register's address (R43, R64). -/
theorem bufferOverlaps_iff {buf : Ptr} {len : Len} : bufferOverlaps buf len = true ↔
    ∃ r : Reg, buf.toNat ≤ r.address ∧ r.address < buf.toNat + len.toNat := by
  simp [bufferOverlaps, Reg.mem_all]

theorem bufferOverlaps_eq_false_iff {buf : Ptr} {len : Len} : bufferOverlaps buf len = false ↔
    ∀ r : Reg, r.address < buf.toNat ∨ buf.toNat + len.toNat ≤ r.address := by
  rw [← Bool.not_eq_true, bufferOverlaps_iff]
  simp only [not_exists, not_and, not_lt]
  exact forall_congr' fun r => ⟨fun h => by by_cases hr : r.address < buf.toNat <;> omega, fun h _ => by omega⟩

/-- The checks of a blocking transaction, said once. -/
theorem transactionRefusal_none {buf : Ptr} {len : Len} {addr : Byte} {s : State} :
    transactionRefusal buf len addr s = none ↔
      blockingRefusal s = none ∧ sevenBit addr = true ∧ bufferRefusal buf len = none ∧ s.startOpen = true := by
  unfold transactionRefusal
  cases blockingRefusal s <;> cases sevenBit addr <;> cases bufferRefusal buf len <;> cases s.startOpen <;> simp

/-- A nonempty buffer that passes the checks is not null and does not wrap. -/
theorem range_of_bufferRefusal_none {buf : Ptr} {len : Len} (h : bufferRefusal buf len = none) (hl : len ≠ 0#16) :
    buf ≠ null ∧ buf.toNat + len.toNat ≤ 65536 := by
  have h := (bufferRefusal_none.1 h).1
  simpa [bufferInRange, hl] using h

/-- What `MasterSendAsync` can answer. -/
theorem execMasterSendAsync_cases {buf : Ptr} {len : Len} {addr : Byte} {rep : Bool} {s t : State}
    (h : execMasterSendAsync buf len addr rep s = .next t) :
    entryRefusal addr s = none ∧
      ((s.busy = true ∨ len = 0#16) ∧ t = s ∨
        s.inst.state = .ready ∧ len ≠ 0#16 ∧ bufferRefusal buf len = none ∧
          t = acceptSend buf len (addr7 addr) rep s) := by
  unfold execMasterSendAsync at h
  split at h
  · simp at h
  · refine ⟨‹_›, ?_⟩
    split at h
    · left; simp_all
    · split at h
      · simp at h
      · right; simp_all [State.busy]

/-- What `MasterReceiveAsync` can answer. -/
theorem execMasterReceiveAsync_cases {buf : Ptr} {len : Len} {addr : Byte} {rep : Bool} {s t : State}
    (h : execMasterReceiveAsync buf len addr rep s = .next t) :
    entryRefusal addr s = none ∧
      ((s.busy = true ∨ len = 0#16) ∧ t = s ∨
        s.inst.state = .ready ∧ len ≠ 0#16 ∧ bufferRefusal buf len = none ∧
          t = acceptReceive buf len (addr7 addr) rep s) := by
  unfold execMasterReceiveAsync at h
  split at h
  · simp at h
  · refine ⟨‹_›, ?_⟩
    split at h
    · left; simp_all
    · split at h
      · simp at h
      · right; simp_all [State.busy]

/-- When an explicit close is admitted (R312). -/
theorem closeRefusal_none {own : BusyState} {s : State} (ho : own ≠ .ready) : closeRefusal own s = none ↔
    s.cr.en = true ∧ (s.inst.state = .ready ∧ s.inst.cfg.role = .master ∨ s.inst.state = own ∧ s.dead = true) := by
  unfold closeRefusal
  cases hr : s.inst.cfg.role <;> cases hs : s.inst.state <;> cases own <;> cases s.cr.en <;> cases s.dead <;> simp_all

theorem execCloseSend_cases {s t : State} (h : execCloseSend s = .next t) :
    closeRefusal .busyTx s = none ∧ t = closeSendOp s := by
  unfold execCloseSend at h; split at h <;> simp_all

theorem execCloseReceive_cases {s t : State} (h : execCloseReceive s = .next t) :
    closeRefusal .busyRx s = none ∧ t = closeReceiveOp s := by
  unfold execCloseReceive at h; split at h <;> simp_all

theorem execSlaveSendByte_cases {b : Byte} {s t : State} (h : execSlaveSendByte b s = .next t) :
    s.cr.en = true ∧ s.delivering = some .dataReq ∧ cmdXmit b s = .next t := by
  unfold execSlaveSendByte at h; split_ifs at h; simp_all

theorem execSlaveReadByte_cases {k : Bool} {s t : State} (h : execSlaveReadByte k s = .next t) :
    s.cr.en = true ∧ s.delivering = some .dataRcv ∧ s.cr.int = true ∧
      t = { s with ret := some (.byte s.dr) }.command k false false s.cr.ie .listen := by
  unfold execSlaveReadByte at h; split_ifs at h; simp_all

/-- What `Init` can answer. -/
theorem execInit_cases {speed : BitVec 32} {a : Byte} {r : Role} {s t : State} (h : execInit speed a r s = .next t) :
    s.inst.state = .ready ∧ s.cr.ie = false ∧ sevenBit a = true ∧ t = (s.configured speed (addr7 a) r).enabled r := by
  unfold execInit State.busy at h
  split_ifs at h
  simp_all

/-- A delivery whose callback does nothing: the event is recorded, and nothing else changes. -/
theorem notify_quiet {ev : Event} {s : State} (h : s.nextCallback = []) :
    notify ev s = .next { s with events := s.events ++ [ev], delivering := none, callbacks := s.callbacks.tail } := by
  simp [notify, h, runCallback, endDelivery, beginDelivery]

/-- What a delivery can answer: its callback answered. -/
theorem notify_cases {ev : Event} {s t : State} (h : notify ev s = .next t) :
    ∃ u, runCallback s.nextCallback (beginDelivery ev s) = .next u ∧ t = endDelivery u := by
  obtain ⟨u, hu, ht⟩ := andThen_eq_next.1 h
  exact ⟨u, hu, by injection ht with ht; exact ht.symm⟩

/-- The operations of a callback, in two parts. -/
theorem runCallback_append (ops rest : List CallbackOp) (s : State) :
    runCallback (ops ++ rest) s = andThen (runCallback ops s) (runCallback rest) := by
  induction ops generalizing s with
  | nil => rfl
  | cons op ops ih =>
    simp only [List.cons_append, runCallback]
    cases runCallbackOp op s <;> simp [ih]

/-- A property that every callback operation keeps, every callback keeps. -/
theorem runCallback_keeps {P : State → Prop} (hop : ∀ op s t, P s → runCallbackOp op s = .next t → P t)
    {ops : List CallbackOp} {s t : State} (hs : P s) (h : runCallback ops s = .next t) : P t := by
  induction ops generalizing s with
  | nil => simp only [runCallback, Host.Outcome.next.injEq] at h; exact h ▸ hs
  | cons op rest ih =>
    obtain ⟨u, hu, ht⟩ := andThen_eq_next.1 h
    exact ih (hop op s u hs hu) ht

/-- What an arm that hands a buffer byte over can answer. -/
theorem handOver_cases {s t : State} (h : handOver s = .next t) :
    s.canSend = true ∧ s.cr.int = true ∧
      t = ({ s with dr := s.byteAt s.inst.pTx }.command s.cr.ea false false s.cr.ie
        (.tx (s.byteAt s.inst.pTx))).advanceTx := by
  unfold handOver at h
  split_ifs at h with hc
  obtain ⟨u, hu, ht⟩ := andThen_eq_next.1 h
  obtain ⟨hi, rfl⟩ := cmdXmit_cases hu
  exact ⟨hc, hi, by injection ht with ht; exact ht.symm⟩

theorem handOver_of_ready {s : State} (hc : s.canSend = true) (hi : s.cr.int = true) :
    handOver s = .next ({ s with dr := s.byteAt s.inst.pTx }.command s.cr.ea false false s.cr.ie
      (.tx (s.byteAt s.inst.pTx))).advanceTx := by
  simp [handOver, hc, cmdXmit_of_int hi]

/-- An arm of the slave classifier answers only in the slave role. -/
theorem slaveArm_cases {act : State → Out} {s t : State} (h : slaveArm act s = .next t) :
    s.inst.cfg.role = .slave ∧ act s = .next t := by
  unfold slaveArm at h; split_ifs at h; exact ⟨‹_›, h⟩

theorem deliverData_cases {ev : Event} {s t : State} (h : deliverData ev s = .next t) :
    notify ev s = .next t ∧ t.cr.int = false := by
  obtain ⟨u, hu, ht⟩ := andThen_eq_next.1 h
  split_ifs at ht with hi
  injection ht with ht
  subst ht
  exact ⟨hu, by simpa using hi⟩

theorem sendNext_cases {buf : Ptr} {len : Len} {rep : Bool} {s t : State} (h : sendNext buf len rep s = .next t) :
    len = 0#16 ∧ t = finishTransaction rep s ∨
      len ≠ 0#16 ∧ s.cr.int = true ∧
        t = ({ s with dr := s.byteAt buf }.command s.cr.ea false false s.cr.ie (.tx (s.byteAt buf))).hold
          (.sendByte (buf + 1#16) (len - 1#16) rep) := by
  unfold sendNext at h
  split_ifs at h with hl
  · left; simp_all
  · right
    obtain ⟨u, hu, ht⟩ := andThen_eq_next.1 h
    obtain ⟨hi, rfl⟩ := cmdXmit_cases hu
    exact ⟨hl, hi, by injection ht with ht; exact ht.symm⟩

theorem receiveNext_next (buf : Ptr) (len : Len) (rep : Bool) (s : State) :
    receiveNext buf len rep s =
      .next (if len = 0#16 then finishTransaction rep s
        else (cmdArm (ackFor len) s).hold (.receiveByte buf len rep)) := by
  unfold receiveNext; split_ifs <;> rfl

end Sys2Proof.Machine
end

