-- ==== Sys2Proof/Laws/PerInstr.lean ====
section
/-! SUPPORT. The per-instruction family RoundTrip: the decoder reads an encoded well-formed instruction back, and leaves
the bytes after it. One lemma per constructor of Instr. -/

namespace Sys2Proof.Laws.RoundTrip

/-- Decoding the encoded instruction, with any bytes after it, gives the instruction and those bytes. -/
def Statement (i : Instr) : Prop :=
  i.wellFormed = true → ∀ rest : List Byte,
    decode ⟨(encode i).format, (encode i).bytesRemain, (encode i).bytes ++ rest⟩ = .ok (i, rest)

theorem stBusError : Statement .stBusError := by
  intro _ rest; rfl

theorem stStart : Statement .stStart := by
  intro _ rest; rfl

theorem stRstart : Statement .stRstart := by
  intro _ rest; rfl

theorem stSlawAck : Statement .stSlawAck := by
  intro _ rest; rfl

theorem stSlawNack : Statement .stSlawNack := by
  intro _ rest; rfl

theorem stTxdAckMore : Statement .stTxdAckMore := by
  intro _ rest; rfl

theorem stTxdAckLast : Statement .stTxdAckLast := by
  intro _ rest; rfl

theorem stTxdNack : Statement .stTxdNack := by
  intro _ rest; rfl

theorem stArbLost : Statement .stArbLost := by
  intro _ rest; rfl

theorem stSlarAck : Statement .stSlarAck := by
  intro _ rest; rfl

theorem stSlarNack : Statement .stSlarNack := by
  intro _ rest; rfl

theorem stRxdAck : Statement .stRxdAck := by
  intro _ rest; rfl

theorem stRxdNack : Statement .stRxdNack := by
  intro _ rest; rfl

theorem ssSlawAck : Statement .ssSlawAck := by
  intro _ rest; rfl

theorem ssArbSlaw : Statement .ssArbSlaw := by
  intro _ rest; rfl

theorem ssGcall : Statement .ssGcall := by
  intro _ rest; rfl

theorem ssArbGcall : Statement .ssArbGcall := by
  intro _ rest; rfl

theorem ssRxdAck : Statement .ssRxdAck := by
  intro _ rest; rfl

theorem ssRxdNack : Statement .ssRxdNack := by
  intro _ rest; rfl

theorem ssGcRxdAck : Statement .ssGcRxdAck := by
  intro _ rest; rfl

theorem ssGcRxdNack : Statement .ssGcRxdNack := by
  intro _ rest; rfl

theorem ssStopRs : Statement .ssStopRs := by
  intro _ rest; rfl

theorem ssSlarAck : Statement .ssSlarAck := by
  intro _ rest; rfl

theorem ssArbSlar : Statement .ssArbSlar := by
  intro _ rest; rfl

theorem ssTxdAck : Statement .ssTxdAck := by
  intro _ rest; rfl

theorem ssTxdNack : Statement .ssTxdNack := by
  intro _ rest; rfl

theorem ssTxlastAck : Statement .ssTxlastAck := by
  intro _ rest; rfl

theorem unassignedD0 : Statement .unassignedD0 := by
  intro _ rest; rfl

theorem unassignedD8 : Statement .unassignedD8 := by
  intro _ rest; rfl

theorem unassignedE0 : Statement .unassignedE0 := by
  intro _ rest; rfl

theorem unassignedE8 : Statement .unassignedE8 := by
  intro _ rest; rfl

theorem unassignedF0 : Statement .unassignedF0 := by
  intro _ rest; rfl

theorem stNoInfo : Statement .stNoInfo := by
  intro _ rest; rfl

theorem init (speed : BitVec 32) (a : Byte) (r : Role) : Statement (.init speed a r) := by
  intro h rest
  change sevenBit a = true at h
  cases r <;> simp [decode, encode, encodeHost, decodeHost, decodeInit, longBytes, h, long_of_bytes, roleByte, flagOf]

theorem startCondition : Statement .startCondition := by
  intro _ rest; rfl

theorem addressTx (a : Byte) (d : Dir) : Statement (.addressTx a d) := by
  intro h rest
  change sevenBit a = true at h
  cases d <;> simp [decode, encode, encodeHost, decodeHost, decodeAddressTx, h, dirByte, flagOf]

theorem byteWrite (b : Byte) : Statement (.byteWrite b) := by
  intro _ rest; rfl

theorem byteReadAckNack (k : Bool) : Statement (.byteReadAckNack k) := by
  intro _ rest; cases k <;> rfl

theorem stopCondition : Statement .stopCondition := by
  intro _ rest; rfl

theorem masterSend (buf : Ptr) (len : Len) (a : Byte) (rep : Bool) : Statement (.masterSend buf len a rep) := by
  intro h rest; exact decodeTransfer_encode _ _ _ _ _ rest h

theorem masterReceive (buf : Ptr) (len : Len) (a : Byte) (rep : Bool) : Statement (.masterReceive buf len a rep) := by
  intro h rest; exact decodeTransfer_encode _ _ _ _ _ rest h

theorem masterSendAsync (buf : Ptr) (len : Len) (a : Byte) (rep : Bool) : Statement (.masterSendAsync buf len a rep) := by
  intro h rest; exact decodeTransfer_encode _ _ _ _ _ rest h

theorem masterReceiveAsync (buf : Ptr) (len : Len) (a : Byte) (rep : Bool) : Statement (.masterReceiveAsync buf len a rep) := by
  intro h rest; exact decodeTransfer_encode _ _ _ _ _ rest h

theorem closeSend : Statement .closeSend := by
  intro _ rest; rfl

theorem closeReceive : Statement .closeReceive := by
  intro _ rest; rfl

theorem slaveSendByte (b : Byte) : Statement (.slaveSendByte b) := by
  intro _ rest; rfl

theorem slaveReadByte (k : Bool) : Statement (.slaveReadByte k) := by
  intro _ rest; cases k <;> rfl

theorem unknownE : Statement .unknownE := by
  intro _ rest; rfl

theorem unknownF : Statement .unknownF := by
  intro _ rest; rfl

theorem cmdStart (ea ie : Bool) : Statement (.cmdStart ea ie) := by
  intro _ rest; cases ea <;> cases ie <;> rfl

theorem cmdXmit (ea ie : Bool) (b : Byte) : Statement (.cmdXmit ea ie b) := by
  intro _ rest; cases ea <;> cases ie <;> rfl

theorem cmdArm (ea ie : Bool) : Statement (.cmdArm ea ie) := by
  intro _ rest; cases ea <;> cases ie <;> rfl

theorem cmdStop (ea ie : Bool) : Statement (.cmdStop ea ie) := by
  intro _ rest; cases ea <;> cases ie <;> rfl

theorem cmdRearm (ea ie : Bool) : Statement (.cmdRearm ea ie) := by
  intro _ rest; cases ea <;> cases ie <;> rfl

theorem addrByte (a : Addr7) (d : Dir) : Statement (.addrByte a d) := by
  intro _ rest
  simp only [decode, encode, decodeAddrByte, List.cons_append, List.nil_append, addrByteOf_address,
    addrByteOf_direction]
  cases d <;> rfl

theorem evTxCmplt : Statement .evTxCmplt := by
  intro _ rest; rfl

theorem evRxCmplt : Statement .evRxCmplt := by
  intro _ rest; rfl

theorem evStop : Statement .evStop := by
  intro _ rest; rfl

theorem evErrArlo : Statement .evErrArlo := by
  intro _ rest; rfl

theorem evErrBerr : Statement .evErrBerr := by
  intro _ rest; rfl

theorem evErrAf : Statement .evErrAf := by
  intro _ rest; rfl

theorem evErrOvr : Statement .evErrOvr := by
  intro _ rest; rfl

theorem evErrTimeout : Statement .evErrTimeout := by
  intro _ rest; rfl

theorem evDataReq : Statement .evDataReq := by
  intro _ rest; rfl

theorem evDataRcv : Statement .evDataRcv := by
  intro _ rest; rfl

theorem errStart : Statement .errStart := by
  intro _ rest; rfl

theorem errAddrNack : Statement .errAddrNack := by
  intro _ rest; rfl

end Sys2Proof.Laws.RoundTrip
end

