-- ==== Sys2Proof/Laws/Run.lean ====
section
/-! SUPPORT. The terms of Safety over the operations; a step of HOST or ENV; runs of the core: one step, then the rest;
and runs put one after another. -/

namespace Sys2Proof.Machine

/-- The buffers that fit are those that no check refuses. -/
theorem bufferFits_iff {buf : Ptr} {len : Len} : BufferFits buf len ↔ bufferRefusal buf len = none := by
  rw [bufferRefusal_none, bufferOverlaps_eq_false_iff]
  by_cases h : len = 0#16
  · simp [BufferFits, bufferInRange, h]
    exact fun r => lt_or_ge r.address buf.toNat
  · simp only [BufferFits, bufferInRange, h, Bool.or_eq_true, Bool.and_eq_true, decide_eq_true_eq, false_or, and_assoc]
    exact Iff.rfl

/-- When HOST or ENV moves, the step is that move. -/
theorem step_eq_agentMove {s : State} (h : AgentsMove s) : step s = agentMove s := by
  have hr : s.resetNext = none := h.noReset
  have hc : s.interruptCondition = false := by
    rcases h.noInterrupt with h | h | h | h <;> simp [State.interruptCondition, State.pendingInterrupt, h]
  simp [step, hr, h.running, hc, agentStep, h.noPortWord]

@[simp] theorem run_zero (s : State) : Host.Core.run Sys2Proof.core 0 s = .next s := rfl

/-- A run of `n + 1` steps is one step and a run of `n`. -/
theorem run_succ (n : Nat) (s : State) :
    Host.Core.run Sys2Proof.core (n + 1) s = andThen (step s) fun t => Host.Core.run Sys2Proof.core n t := by
  have unfolded : ∀ (M : Host.Core) (u : M.State), Host.Core.run M (n + 1) u =
      (match M.step u with
        | .next v => Host.Core.run M n v
        | .fault r => .fault r
        | .refused r => .refused r) := fun _ _ => rfl
  refine (unfolded Sys2Proof.core s).trans ?_
  have h : Sys2Proof.core.step s = step s := rfl
  rw [h]
  cases step s <;> rfl

theorem run_succ_of_step {n : Nat} {s t : State} (h : step s = .next t) :
    Host.Core.run Sys2Proof.core (n + 1) s = Host.Core.run Sys2Proof.core n t := by
  rw [run_succ, h]; rfl

/-- Runs one after another. -/
theorem run_add {m : Nat} (n : Nat) {s t : State} (h : Host.Core.run Sys2Proof.core m s = .next t) :
    Host.Core.run Sys2Proof.core (m + n) s = Host.Core.run Sys2Proof.core n t := by
  induction m generalizing s with
  | zero => rw [run_zero] at h; injection h with h; rw [Nat.zero_add, ← h]
  | succ m ih =>
    rw [run_succ] at h
    obtain ⟨u, hu, h⟩ := andThen_eq_next.1 h
    rw [Nat.add_right_comm, run_succ_of_step hu, ih h]

/-- A property that every step keeps, every run keeps. -/
theorem run_keeps {P : State → Prop} (hstep : ∀ s t : State, P s → step s = .next t → P t) {n : Nat} {s t : State}
    (hs : P s) (h : Host.Core.run Sys2Proof.core n s = .next t) : P t := by
  induction n generalizing s with
  | zero => rw [run_zero] at h; injection h with h; exact h ▸ hs
  | succ n ih =>
    rw [run_succ] at h
    obtain ⟨u, hu, h⟩ := andThen_eq_next.1 h
    exact ih (hstep s u hs hu) h

end Sys2Proof.Machine
end

