-- ==== Sys2Proof/Tests/Slice0.lean ====
section
/-! SUPPORT. The model's own tests: ill-formed terms the check refuses, words written out from the spec's tables and
what they decode to, one-step tests taken from the examples of the spec (95_test_vectors.md and the rules' own), and for
every obligation with hypotheses a state and operands that meet them. -/

namespace Sys2Proof.Tests

open Sys2Proof Sys2Proof.Machine

/-! ### States -/

/-- After `Init` as master (95_test_vectors.md, Conventions), with the flag, the two enables and the code given. -/
def coded (int ea ie : Bool) (c : Code) : State :=
  { State.reset with
    inst := { Inst.reset with cfg := { speed := 100000#32, ownAddr := 0#7, role := .master } }
    cr := { int := int, ea := ea, sta := false, sto := false, wc := false, en := true, ie := ie }
    sr := { code := c, ps := 0#2 }
    dr := 0xD1#8
    gie := true
    mem := [(0x0100, 0x41#8), (0x0101, 0x42#8), (0x0102, 0x43#8)] }

/-- The bus is owned, and `p` is in flight. -/
def flying (p : Pending) : EnvState :=
  { pend := p, busOwned := true, stopFirst := false, stopSilent := false, stopGiven := false }

/-- The bus is owned, and nothing is in flight. -/
def owned : EnvState := flying .none

/-- In an asynchronous send, a completion with code `c` there. -/
def sending (buf : Ptr) (len : Len) (rep : Bool) (c : Code) : State :=
  { coded true false true c with
    inst :=
      { (coded true false true c).inst with state := .busyTx, pTx := buf, txLen := len, devAddr := 0x68#7, rep := rep }
    env := owned }

/-- In an asynchronous receive, a completion with code `c` there and `d` in DR. -/
def receiving (buf : Ptr) (len : Len) (rep : Bool) (d : Byte) (c : Code) : State :=
  { coded true false true c with
    inst :=
      { (coded true false true c).inst with state := .busyRx, pRx := buf, rxLen := len, devAddr := 0x68#7, rep := rep }
    env := owned
    dr := d }

/-- In the slave role after `Init(100000, 0x2A, slave)` (2.8), a completion with code `c` there and `d` in DR; the
application's callback does `ops`. -/
def answered (d : Byte) (ops : List CallbackOp) (c : Code) : State :=
  { coded true true true c with
    inst := { Inst.reset with cfg := { speed := 100000#32, ownAddr := 0x2A#7, role := .slave } }
    ar := 0x54#8
    dr := d
    callbacks := [ops] }

/-- HOST held in a wait with the completion there. -/
def held (h : HostCtl) (c : Code) : State := { coded true false false c with host := h }

/-- HOST held in a wait without one. -/
def waiting (h : HostCtl) : State := { coded false false false Status.noInfo with host := h }

/-- HOST with one command and nothing under way, ENV with `moves`. -/
def poised (w : List Byte) (moves : List EnvMove) : State :=
  { coded false false false Status.noInfo with app := [.command w], envMoves := moves }

/-! ### WellFormed: an ill-formed term for each check -/

theorem test_wellFormed_init : (Instr.init 100000#32 0x80#8 .master).wellFormed = false := by decide
theorem test_wellFormed_addressTx : (Instr.addressTx 0xE8#8 .write).wellFormed = false := by decide
theorem test_wellFormed_masterSend : (Instr.masterSend 0x0100#16 3#16 0x80#8 false).wellFormed = false := by decide
theorem test_wellFormed_masterReceive :
    (Instr.masterReceive 0x0100#16 3#16 0xFF#8 false).wellFormed = false := by decide
theorem test_wellFormed_masterSendAsync :
    (Instr.masterSendAsync 0x0100#16 3#16 0x80#8 false).wellFormed = false := by decide
theorem test_wellFormed_masterReceiveAsync :
    (Instr.masterReceiveAsync 0x0100#16 3#16 0xE8#8 true).wellFormed = false := by decide

/-! ### Decoding: the words of the spec's tables -/

/-- R95: every status code word. -/
theorem test_decode_status :
    decode ⟨.status, false, [0x00#8]⟩ = .ok (.stBusError, []) ∧
    decode ⟨.status, false, [0x08#8]⟩ = .ok (.stStart, []) ∧
    decode ⟨.status, false, [0x10#8]⟩ = .ok (.stRstart, []) ∧
    decode ⟨.status, false, [0x18#8]⟩ = .ok (.stSlawAck, []) ∧
    decode ⟨.status, false, [0x20#8]⟩ = .ok (.stSlawNack, []) ∧
    decode ⟨.status, false, [0x30#8]⟩ = .ok (.stTxdNack, []) ∧
    decode ⟨.status, false, [0x38#8]⟩ = .ok (.stArbLost, []) ∧
    decode ⟨.status, false, [0x40#8]⟩ = .ok (.stSlarAck, []) ∧
    decode ⟨.status, false, [0x48#8]⟩ = .ok (.stSlarNack, []) ∧
    decode ⟨.status, false, [0x50#8]⟩ = .ok (.stRxdAck, []) ∧
    decode ⟨.status, false, [0x58#8]⟩ = .ok (.stRxdNack, []) ∧
    decode ⟨.status, false, [0x60#8]⟩ = .ok (.ssSlawAck, []) ∧
    decode ⟨.status, false, [0x68#8]⟩ = .ok (.ssArbSlaw, []) ∧
    decode ⟨.status, false, [0x70#8]⟩ = .ok (.ssGcall, []) ∧
    decode ⟨.status, false, [0x78#8]⟩ = .ok (.ssArbGcall, []) ∧
    decode ⟨.status, false, [0x80#8]⟩ = .ok (.ssRxdAck, []) ∧
    decode ⟨.status, false, [0x88#8]⟩ = .ok (.ssRxdNack, []) ∧
    decode ⟨.status, false, [0x90#8]⟩ = .ok (.ssGcRxdAck, []) ∧
    decode ⟨.status, false, [0x98#8]⟩ = .ok (.ssGcRxdNack, []) ∧
    decode ⟨.status, false, [0xA0#8]⟩ = .ok (.ssStopRs, []) ∧
    decode ⟨.status, false, [0xA8#8]⟩ = .ok (.ssSlarAck, []) ∧
    decode ⟨.status, false, [0xB0#8]⟩ = .ok (.ssArbSlar, []) ∧
    decode ⟨.status, false, [0xB8#8]⟩ = .ok (.ssTxdAck, []) ∧
    decode ⟨.status, false, [0xC0#8]⟩ = .ok (.ssTxdNack, []) ∧
    decode ⟨.status, false, [0xC8#8]⟩ = .ok (.ssTxlastAck, []) ∧
    decode ⟨.status, false, [0xD0#8]⟩ = .ok (.unassignedD0, []) ∧
    decode ⟨.status, false, [0xD8#8]⟩ = .ok (.unassignedD8, []) ∧
    decode ⟨.status, false, [0xE0#8]⟩ = .ok (.unassignedE0, []) ∧
    decode ⟨.status, false, [0xE8#8]⟩ = .ok (.unassignedE8, []) ∧
    decode ⟨.status, false, [0xF0#8]⟩ = .ok (.unassignedF0, []) ∧
    decode ⟨.status, false, [0xF8#8]⟩ = .ok (.stNoInfo, []) := by
  and_intros <;> rfl

/-- R189, R191: code 0x28 by the condition; V-EN-8 to V-EN-10: the low three bits take no part. -/
theorem test_decode_status_condition :
    decode ⟨.status, true, [0x28#8]⟩ = .ok (.stTxdAckMore, []) ∧
    decode ⟨.status, false, [0x28#8]⟩ = .ok (.stTxdAckLast, []) ∧
    codeByte (codeOf 0x2B#8) = 0x28#8 ∧
    codeByte (codeOf 0xFC#8) = 0xF8#8 ∧
    codeByte (codeOf 0x07#8) = 0x00#8 := by
  and_intros <;> rfl

/-- R107: every host command (the operand bytes in the layout of log entry 6). -/
theorem test_decode_hostcmd :
    decode ⟨.hostcmd, false, [0x0#8, 0xA0#8, 0x86#8, 0x01#8, 0x00#8, 0x2A#8, 0x01#8]⟩ =
      .ok (.init 100000#32 0x2A#8 .slave, []) ∧
    decode ⟨.hostcmd, false, [0x1#8]⟩ = .ok (.startCondition, []) ∧
    decode ⟨.hostcmd, false, [0x2#8, 0x68#8, 0x01#8]⟩ = .ok (.addressTx 0x68#8 .read, []) ∧
    decode ⟨.hostcmd, false, [0x3#8, 0x41#8]⟩ = .ok (.byteWrite 0x41#8, []) ∧
    decode ⟨.hostcmd, false, [0x4#8, 0x01#8]⟩ = .ok (.byteReadAckNack true, []) ∧
    decode ⟨.hostcmd, false, [0x5#8]⟩ = .ok (.stopCondition, []) ∧
    decode ⟨.hostcmd, false, [0x6#8, 0x00#8, 0x01#8, 0x03#8, 0x00#8, 0x68#8, 0x00#8]⟩ =
      .ok (.masterSend 0x0100#16 3#16 0x68#8 false, []) ∧
    decode ⟨.hostcmd, false, [0x7#8, 0x00#8, 0x02#8, 0x03#8, 0x00#8, 0x68#8, 0x01#8]⟩ =
      .ok (.masterReceive 0x0200#16 3#16 0x68#8 true, []) ∧
    decode ⟨.hostcmd, false, [0x8#8, 0x00#8, 0x01#8, 0x03#8, 0x00#8, 0x68#8, 0x00#8]⟩ =
      .ok (.masterSendAsync 0x0100#16 3#16 0x68#8 false, []) ∧
    decode ⟨.hostcmd, false, [0x9#8, 0x00#8, 0x02#8, 0x02#8, 0x00#8, 0x68#8, 0x00#8]⟩ =
      .ok (.masterReceiveAsync 0x0200#16 2#16 0x68#8 false, []) ∧
    decode ⟨.hostcmd, false, [0xA#8]⟩ = .ok (.closeSend, []) ∧
    decode ⟨.hostcmd, false, [0xB#8]⟩ = .ok (.closeReceive, []) ∧
    decode ⟨.hostcmd, false, [0xC#8, 0x12#8]⟩ = .ok (.slaveSendByte 0x12#8, []) ∧
    decode ⟨.hostcmd, false, [0xD#8, 0x00#8]⟩ = .ok (.slaveReadByte false, []) ∧
    decode ⟨.hostcmd, false, [0xE#8]⟩ = .ok (.unknownE, []) ∧
    decode ⟨.hostcmd, false, [0xF#8]⟩ = .ok (.unknownF, []) := by
  and_intros <;> rfl

/-- V-EN-11 to V-EN-14: the control words of the five commands. -/
theorem test_decode_cr :
    decode ⟨.cr, false, [0xA4#8]⟩ = .ok (.cmdStart false false, []) ∧
    decode ⟨.cr, false, [0xE5#8]⟩ = .ok (.cmdStart true true, []) ∧
    decode ⟨.cr, false, [0x85#8, 0x00#8, 0x41#8]⟩ = .ok (.cmdXmit false true 0x41#8, []) ∧
    decode ⟨.cr, false, [0xC4#8, 0x01#8]⟩ = .ok (.cmdArm true false, []) ∧
    decode ⟨.cr, false, [0x95#8]⟩ = .ok (.cmdStop false true, []) ∧
    decode ⟨.cr, false, [0xC5#8, 0x02#8]⟩ = .ok (.cmdRearm true true, []) := by
  and_intros <;> rfl

/-- V-EN-1 to V-EN-6, read back; V-EN-7. -/
theorem test_decode_addrByte :
    decode ⟨.addrbyte, false, [0xD0#8]⟩ = .ok (.addrByte 0x68#7 .write, []) ∧
    decode ⟨.addrbyte, false, [0x00#8]⟩ = .ok (.addrByte 0x00#7 .write, []) ∧
    decode ⟨.addrbyte, false, [0xFF#8]⟩ = .ok (.addrByte 0x7F#7 .read, []) ∧
    decode ⟨.addrbyte, false, [0xA1#8]⟩ = .ok (.addrByte 0x50#7 .read, []) ∧
    decode ⟨.hostcmd, false, [0x2#8, 0xE8#8, 0x00#8]⟩ = .error .addressRange := by
  and_intros <;> rfl

/-- R105. -/
theorem test_decode_event :
    decode ⟨.event, false, [0x0#8]⟩ = .ok (.evTxCmplt, []) ∧
    decode ⟨.event, false, [0x1#8]⟩ = .ok (.evRxCmplt, []) ∧
    decode ⟨.event, false, [0x2#8]⟩ = .ok (.evStop, []) ∧
    decode ⟨.event, false, [0x3#8]⟩ = .ok (.evErrArlo, []) ∧
    decode ⟨.event, false, [0x4#8]⟩ = .ok (.evErrBerr, []) ∧
    decode ⟨.event, false, [0x5#8]⟩ = .ok (.evErrAf, []) ∧
    decode ⟨.event, false, [0x6#8]⟩ = .ok (.evErrOvr, []) ∧
    decode ⟨.event, false, [0x7#8]⟩ = .ok (.evErrTimeout, []) ∧
    decode ⟨.event, false, [0x8#8]⟩ = .ok (.evDataReq, []) ∧
    decode ⟨.event, false, [0x9#8]⟩ = .ok (.evDataRcv, []) := by
  and_intros <;> rfl

/-- R106. -/
theorem test_decode_error :
    decode ⟨.error, false, [0x1#8]⟩ = .ok (.errStart, []) ∧
    decode ⟨.error, false, [0x2#8]⟩ = .ok (.errAddrNack, []) := by
  and_intros <;> rfl

/-- Words the decoder rejects by name. -/
theorem test_decode_rejects :
    decode ⟨.event, false, [0xA#8]⟩ = .error .unusedCode ∧
    decode ⟨.error, false, [0x0#8]⟩ = .error .unusedCode ∧
    decode ⟨.cr, false, [0xB4#8]⟩ = .error .notACommand ∧
    decode ⟨.cr, false, [0x24#8]⟩ = .error .notACommand ∧
    decode ⟨.hostcmd, false, [0x8#8, 0x00#8]⟩ = .error .truncated ∧
    decode ⟨.hostcmd, false, [0x18#8]⟩ = .error .reservedBits ∧
    decode ⟨.hostcmd, false, [0x4#8, 0x02#8]⟩ = .error .flagRange := by
  and_intros <;> rfl

/-! ### One step: the examples of the spec -/

/-- V-IN-2. -/
theorem test_init_master :
    (nextOf (exec (.init 100000#32 0x00#8 .master) State.reset)).map
      (fun t => (t.inst.cfg, t.sr.ps, t.ar, t.cr.word)) =
      some (⟨100000#32, 0#7, .master⟩, 0#2, 0x00#8, 0x04#8) := by decide

/-- V-IN-3. -/
theorem test_init_slave :
    (nextOf (exec (.init 400000#32 0x2A#8 .slave) State.reset)).map
      (fun t => (t.inst.cfg, t.ar, t.cr.word, t.env.pend)) =
      some (⟨400000#32, 0x2A#7, .slave⟩, 0x54#8, 0x45#8, .listen) := by decide

/-- V-PR-1, the command; `CR` reads 0x24 until the completion (V-PR-4). -/
theorem test_startCondition :
    (nextOf (exec .startCondition (coded false false false Status.noInfo))).map
      (fun t => (t.cr.word, t.env.pend, t.host, t.wire)) =
      some (0x24#8, .start, .startWait, []) := by decide

/-- V-PR-3: the completion of START with ST_ARB_LOST. -/
theorem test_startCondition_lost :
    (nextOf (hostTurn { coded true false false Status.arbLost with host := .startWait })).map
      (fun t => (t.ret, t.host, t.wire)) =
      some (some (.bool false), .idle, []) := by decide

/-- V-PR-5. -/
theorem test_addressTx :
    (nextOf (exec (.addressTx 0x68#8 .write) { coded true false false Status.start with seq := .started })).map
      (fun t => (t.dr, t.cr.word, t.env.pend)) =
      some (0xD0#8, 0x04#8, .tx 0xD0#8) := by decide

/-- V-PR-8: the ACK code of the other direction. -/
theorem test_addressTx_otherDirection :
    (nextOf (hostTurn { coded true false false Status.slarAck with host := .addressWait .write })).map
      (fun t => (t.ret, t.sr.code)) =
      some (some (.bool false), Status.slarAck) := by decide

/-- V-PR-10. -/
theorem test_byteWrite :
    (nextOf (exec (.byteWrite 0x41#8) { coded true false false Status.slawAck with seq := .writing })).map
      (fun t => (t.dr, t.cr.word, t.env.pend)) =
      some (0x41#8, 0x04#8, .tx 0x41#8) := by decide

/-- V-PR-10, the NACK. -/
theorem test_byteWrite_nack :
    (nextOf (hostTurn { coded true false false Status.txdNack with host := .writeWait, seq := .writing })).map
      (fun t => (t.ret)) =
      some (some (.bool false)) := by decide

/-- V-PR-11. -/
theorem test_byteReadAckNack :
    (nextOf (exec (.byteReadAckNack true) { coded true false false Status.slarAck with seq := .reading })).map
      (fun t => (t.cr.word, t.env.pend)) =
      some (0x44#8, .rx) := by decide

/-- V-PR-13: a bus error completes the read; the stale DR is returned. -/
theorem test_byteReadAckNack_stale :
    (nextOf (hostTurn { coded true false false Status.busError with host := .readWait })).map (fun t => (t.ret)) =
      some (some (.byte 0xD1#8)) := by decide

/-- V-PR-14; it does not wait. -/
theorem test_stopCondition :
    (nextOf (exec .stopCondition { coded true false false Status.txdAck with seq := .writing, env := owned })).map
      (fun t => (t.cr.word, t.env.pend, t.host)) =
      some (0x14#8, .stop, .idle) := by decide

/-- V-BL-1, the first control word. -/
theorem test_masterSend_start :
    (nextOf (exec (.masterSend 0x0100#16 3#16 0x68#8 false) (coded false false false Status.noInfo))).map
      (fun t => (t.cr.word, t.env.pend, t.host)) =
      some (0x24#8, .start, .sendStart 0x0100#16 3#16 0x68#7 false) := by decide

/-- V-BL-5: the address is not acknowledged. -/
theorem test_masterSend_addressNack :
    (nextOf (hostTurn { coded true false false Status.slawNack with host := .sendAddress 0x0100#16 3#16 false })).map
      (fun t => (t.errors, t.halted, t.cr.word, t.host)) =
      some ([.addrNack], true, 0x84#8, .idle) := by decide

/-- V-BL-8, the first control word. -/
theorem test_masterReceive_start :
    (nextOf (exec (.masterReceive 0x0200#16 3#16 0x68#8 false) (coded false false false Status.noInfo))).map
      (fun t => (t.cr.word, t.host)) =
      some (0x24#8, .receiveStart 0x0200#16 3#16 0x68#7 false) := by decide

/-- V-BL-10: the first of two bytes is stored, NACK armed for the second. -/
theorem test_masterReceive_secondOfTwo :
    (nextOf (hostTurn { held (.receiveByte 0x0200#16 2#16 true) 10#5 with dr := 1#8, cr := (coded true true false 0#5).cr })).map
      (fun t => (t.mem.read 0x0200, t.cr.word, t.host)) =
      some (0x01#8, 0x04#8, .receiveByte 0x0201#16 1#16 true) := by decide

/-- The example of R185. -/
theorem test_masterSendAsync :
    (nextOf (exec (.masterSendAsync 0x0100#16 3#16 0x68#8 false) (coded false false false Status.noInfo))).map
      (fun t => (t.inst.pTx, t.inst.txLen, t.inst.devAddr, t.inst.rep, t.inst.state, t.cr.word)) =
      some (0x0100#16, 3#16, 0x68#7, false, .busyTx, 0x25#8) := by decide

/-- V-TX-6, V-TX-7, V-IN-5, V-SL-13. -/
theorem test_masterSendAsync_refused :
    refusalOf (exec (.masterSendAsync 0x0000#16 3#16 0x68#8 false) (coded false false false Status.noInfo)) =
      some .bufferRange ∧
    refusalOf (exec (.masterSendAsync 0xFFFE#16 3#16 0x68#8 false) (coded false false false Status.noInfo)) =
      some .bufferRange ∧
    refusalOf (exec (.masterSendAsync 0x0100#16 3#16 0x68#8 false) State.reset) = some .notEnabled ∧
    refusalOf (exec (.masterSendAsync 0x0100#16 3#16 0x68#8 false) (answered 0#8 [] Status.noInfo)) =
      some .roleMismatch := by decide

/-- The example of R210, with `CR.EA` left 1 (word 0xE5). -/
theorem test_masterReceiveAsync :
    (nextOf (exec (.masterReceiveAsync 0x0200#16 2#16 0x68#8 false) (coded false true false Status.noInfo))).map
      (fun t => (t.inst.pRx, t.inst.rxLen, t.inst.state, t.cr.word)) =
      some (0x0200#16, 2#16, .busyRx, 0x65#8) := by decide

/-- V-CL-2. -/
theorem test_closeSend :
    (nextOf (exec .closeSend { sending 0x0101#16 2#16 true Status.busError with dead := true })).map
      (fun t => (t.cr.word, t.inst.state, t.inst.pTx, t.inst.txLen, t.inst.devAddr, t.inst.rep)) =
      some (0x84#8, .ready, 0#16, 0#16, 0x68#7, true) := by decide

/-- V-TX-9, V-TX-10. -/
theorem test_closeSend_refused :
    refusalOf (exec .closeSend (sending 0x0100#16 3#16 false Status.start)) = some .liveTransactionMutation ∧
    refusalOf (exec .closeSend (receiving 0x0200#16 2#16 false 0#8 Status.start)) = some .closeWrongSide := by decide

/-- The example of R219. -/
theorem test_closeReceive :
    (nextOf (exec .closeReceive { receiving 0x0202#16 1#16 false 0#8 Status.busError with dead := true })).map
      (fun t => (t.cr.ie, t.inst.state, t.inst.pRx, t.inst.rxLen)) =
      some (false, .ready, 0#16, 0#16) := by decide

/-- The example of R243. -/
theorem test_slaveSendByte :
    (nextOf (exec (.slaveSendByte 0x12#8) { answered 0#8 [] Status.ssSlarAck with delivering := some .dataReq })).map
      (fun t => (t.dr, t.cr.word, t.env.pend)) =
      some (0x12#8, 0x45#8, .tx 0x12#8) := by decide

/-- V-SL-14. -/
theorem test_slaveSendByte_refused :
    refusalOf (exec (.slaveSendByte 0x12#8) (answered 0#8 [] Status.ssSlarAck)) = some .outOfSequence := by decide

/-- V-SL-3. -/
theorem test_slaveReadByte :
    (nextOf (exec (.slaveReadByte false) { answered 0x52#8 [] Status.ssRxdAck with delivering := some .dataRcv })).map
      (fun t => (t.ret, t.cr.word, t.env.pend)) =
      some (some (.byte 0x52#8), 0x05#8, .listen) := by decide

/-- V-EN-16. -/
theorem test_unknown_opcodes :
    refusalOf (exec .unknownE State.reset) = some .unknownCommand ∧
    refusalOf (exec .unknownF State.reset) = some .unknownCommand := by decide

/-- The example of R168. -/
theorem test_stStart :
    (nextOf (exec .stStart (sending 0x0100#16 3#16 false Status.start))).map (fun t => (t.dr, t.cr.word)) =
      some (0xD0#8, 0x05#8) := by decide

/-- The example of R168, BUSY_RX. -/
theorem test_stRstart :
    (nextOf (exec .stRstart (receiving 0x0200#16 1#16 false 0#8 Status.rstart))).map (fun t => (t.dr, t.cr.word)) =
      some (0xD1#8, 0x05#8) := by decide

/-- V-DI-5. -/
theorem test_stStart_spurious :
    faultOf (exec .stStart (coded true false true Status.start)) = some .spuriousStatus := by decide

/-- The example of R187. -/
theorem test_stSlawAck :
    (nextOf (exec .stSlawAck (sending 0x0100#16 3#16 false Status.slawAck))).map
      (fun t => (t.dr, t.cr.word, t.inst.pTx, t.inst.txLen)) =
      some (0x41#8, 0x05#8, 0x0101#16, 2#16) := by decide

/-- Scenario C (R188). -/
theorem test_stSlawNack :
    (nextOf (exec .stSlawNack (sending 0x0100#16 2#16 true Status.slawNack))).map
      (fun t => (t.cr.word, t.inst.state, t.inst.pTx, t.inst.txLen, t.events)) =
      some (0x14#8, .ready, 0#16, 0#16, [.txCmplt]) := by decide

/-- The example of R189. -/
theorem test_stTxdAckMore :
    (nextOf (exec .stTxdAckMore (sending 0x0101#16 2#16 false Status.txdAck))).map
      (fun t => (t.dr, t.cr.word, t.inst.pTx, t.inst.txLen)) =
      some (0x42#8, 0x05#8, 0x0102#16, 1#16) := by decide

/-- The example of R191. -/
theorem test_stTxdAckLast :
    (nextOf (exec .stTxdAckLast (sending 0x0103#16 0#16 false Status.txdAck))).map
      (fun t => (t.cr.word, t.inst.state, t.events)) =
      some (0x14#8, .ready, [.txCmplt]) := by decide

/-- V-TX-5. -/
theorem test_stTxdAckLast_repeated :
    (nextOf (exec .stTxdAckLast (sending 0x0103#16 0#16 true Status.txdAck))).map
      (fun t => (t.cr.word, t.inst.state, t.inst.rep, t.inst.devAddr, t.events)) =
      some (0x84#8, .ready, true, 0x68#7, [.txCmplt]) := by decide

/-- The example of R192. -/
theorem test_stTxdNack :
    (nextOf (exec .stTxdNack (sending 0x0102#16 1#16 false Status.txdNack))).map
      (fun t => (t.cr.word, t.inst.state, t.inst.txLen, t.events)) =
      some (0x14#8, .ready, 0#16, [.txCmplt]) := by decide

/-- V-DI-4, V-SL-12. -/
theorem test_stArbLost :
    faultOf (exec .stArbLost (sending 0x0100#16 3#16 false Status.arbLost)) = some (.unlistedStatus 0x38#8) ∧
    faultOf (exec .ssGcall (answered 0#8 [] Status.ssGcall)) = some (.unlistedStatus 0x70#8) := by decide

/-- The example of R212. -/
theorem test_stSlarAck :
    (nextOf (exec .stSlarAck (receiving 0x0200#16 3#16 false 0#8 Status.slarAck))).map
      (fun t => (t.cr.word, t.env.pend)) =
      some (0x45#8, .rx) := by decide

/-- The example of R212, one byte; EA was 1. -/
theorem test_stSlarAck_one :
    (nextOf (exec .stSlarAck { receiving 0x0200#16 1#16 false 0#8 Status.slarAck with cr := (coded true true true 0#5).cr })).map
      (fun t => (t.cr.word)) =
      some (0x05#8) := by decide

/-- The example of R213. -/
theorem test_stSlarNack :
    (nextOf (exec .stSlarNack (receiving 0x0200#16 2#16 false 0xAA#8 Status.slarNack))).map
      (fun t => (t.cr.word, t.inst.state, t.mem.read 0x0200, t.events)) =
      some (0x14#8, .ready, 0x00#8, [.rxCmplt]) := by decide

/-- The example of R214. -/
theorem test_stRxdAck :
    (nextOf (exec .stRxdAck (receiving 0x0200#16 3#16 false 0xAA#8 Status.rxdAck))).map
      (fun t => (t.mem.read 0x0200, t.inst.pRx, t.inst.rxLen, t.cr.word)) =
      some (0xAA#8, 0x0201#16, 2#16, 0x45#8) := by decide

/-- V-RX-6: an ACK code though NACK was armed. -/
theorem test_stRxdAck_last :
    (nextOf (exec .stRxdAck (receiving 0x0202#16 1#16 false 0xCC#8 Status.rxdAck))).map
      (fun t => (t.mem.read 0x0202, t.inst.rxLen, t.cr.word, t.inst.state)) =
      some (0xCC#8, 0#16, 0x05#8, .busyRx) := by decide

/-- The example of R215. -/
theorem test_stRxdNack :
    (nextOf (exec .stRxdNack (receiving 0x0202#16 1#16 false 0xCC#8 Status.rxdNack))).map
      (fun t => (t.mem.read 0x0202, t.cr.word, t.inst.pRx, t.inst.rxLen, t.events)) =
      some (0xCC#8, 0x14#8, 0#16, 0#16, [.rxCmplt]) := by decide

/-- V-RX-5. -/
theorem test_stRxdNack_repeated :
    (nextOf (exec .stRxdNack (receiving 0x0202#16 1#16 true 0xCC#8 Status.rxdNack))).map
      (fun t => (t.mem.read 0x0202, t.cr.word, t.inst.state, t.events)) =
      some (0xCC#8, 0x84#8, .ready, [.rxCmplt]) := by decide

/-- V-DI-1. -/
theorem test_stBusError :
    (nextOf (exec .stBusError (sending 0x0101#16 2#16 false Status.busError))).map
      (fun t => (t.cr.word, t.dead, t.events, t.inst.state, t.inst.txLen)) =
      some (0x15#8, true, [.errBerr], .busyTx, 2#16) := by decide

/-- V-DI-2. -/
theorem test_stBusError_closes :
    (nextOf (exec .stBusError { sending 0x0101#16 2#16 false Status.busError with params := ⟨true, false⟩ })).map
      (fun t => (t.cr.word, t.events, t.inst.state, t.inst.txLen, t.inst.pTx)) =
      some (0x14#8, [.errBerr], .ready, 0#16, 0#16) := by decide

/-- V-SL-1. -/
theorem test_ssSlawAck :
    (nextOf (exec .ssSlawAck (answered 0#8 [] Status.ssSlawAck))).map (fun t => (t.cr.word, t.env.pend, t.events)) =
      some (0x45#8, .listen, []) := by decide

/-- V-SL-3. -/
theorem test_ssRxdAck :
    (nextOf (exec .ssRxdAck (answered 0x52#8 [.slaveReadByte false] Status.ssRxdAck))).map
      (fun t => (t.ret, t.cr.word, t.events)) =
      some (some (.byte 0x52#8), 0x05#8, [.dataRcv]) := by decide

/-- V-SL-4. -/
theorem test_ssRxdNack :
    (nextOf (exec .ssRxdNack (answered 0x99#8 [.slaveReadByte true] Status.ssRxdNack))).map
      (fun t => (t.ret, t.cr.word, t.events)) =
      some (some (.byte 0x99#8), 0x45#8, [.dataRcv]) := by decide

/-- V-SL-5. -/
theorem test_ssStopRs :
    (nextOf (exec .ssStopRs (answered 0#8 [] Status.ssStopRs))).map (fun t => (t.cr.word, t.events)) =
      some (0x45#8, [.stop]) := by decide

/-- V-SL-6. -/
theorem test_ssSlarAck :
    (nextOf (exec .ssSlarAck (answered 0#8 [.slaveSendByte 0x11#8] Status.ssSlarAck))).map
      (fun t => (t.dr, t.cr.word, t.events)) =
      some (0x11#8, 0x45#8, [.dataReq]) := by decide

/-- V-SL-10, V-SL-11. -/
theorem test_ssSlarAck_contract :
    faultOf (exec .ssSlarAck (answered 0#8 [] Status.ssSlarAck)) = some .callbackContract ∧
    faultOf (exec .ssSlarAck (answered 0#8 [.slaveSendByte 0x11#8, .slaveSendByte 0x22#8] Status.ssSlarAck)) =
      some .writeCollision := by decide

/-- V-SL-7. -/
theorem test_ssTxdAck :
    (nextOf (exec .ssTxdAck (answered 0#8 [.slaveSendByte 0x22#8] Status.ssTxdAck))).map
      (fun t => (t.dr, t.cr.word, t.events)) =
      some (0x22#8, 0x45#8, [.dataReq]) := by decide

/-- V-SL-8. -/
theorem test_ssTxdNack :
    (nextOf (exec .ssTxdNack (answered 0#8 [] Status.ssTxdNack))).map (fun t => (t.cr.word, t.events)) =
      some (0x45#8, [.errAf]) := by decide

/-- V-EN-15, by the row: the word 0xA5, after it `CR` reads 0x25. -/
theorem test_cmdStart :
    (nextOf (exec (.cmdStart false true) (coded true false false Status.txdAck))).map
      (fun t => (t.cr.word, t.env.pend)) =
      some (0x25#8, .start) := by decide

/-- V-EN-12, the word 0x85. -/
theorem test_cmdXmit :
    (nextOf (exec (.cmdXmit false true 0x41#8) (coded true false true Status.slawAck))).map
      (fun t => (t.dr, t.cr.word)) =
      some (0x41#8, 0x05#8) := by decide

/-- V-EN-13, the word 0xC5. -/
theorem test_cmdArm :
    (nextOf (exec (.cmdArm true true) (coded true false true Status.slarAck))).map
      (fun t => (t.cr.word, t.env.pend)) =
      some (0x45#8, .rx) := by decide

/-- V-EN-14, the word 0xD4. -/
theorem test_cmdStop :
    (nextOf (exec (.cmdStop true false) (coded true true false Status.txdAck))).map
      (fun t => (t.cr.word, t.env.pend)) =
      some (0x54#8, .stop) := by decide

/-- V-EN-12, the word 0xC5. -/
theorem test_cmdRearm :
    (nextOf (exec (.cmdRearm true true) (answered 0#8 [] Status.ssSlawAck))).map (fun t => (t.cr.word, t.env.pend)) =
      some (0x45#8, .listen) := by decide

/-- V-EN-4. -/
theorem test_addrByte :
    (nextOf (exec (.addrByte 0x7F#7 .read) (coded true false false Status.start))).map (fun t => (t.dr, t.env.pend)) =
      some (0xFF#8, .tx 0xFF#8) := by decide

/-- R105: each event output records its own code. -/
theorem test_events :
    ([Instr.evTxCmplt, .evRxCmplt, .evStop, .evErrArlo, .evErrBerr, .evErrAf, .evErrOvr, .evErrTimeout, .evDataReq,
      .evDataRcv].map fun i => (nextOf (exec i State.reset)).map State.events) =
      [[Event.txCmplt], [.rxCmplt], [.stop], [.errArlo], [.errBerr], [.errAf], [.errOvr], [.errTimeout], [.dataReq],
      [.dataRcv]].map some := by decide

/-- V-BL-7: the default handler does not return. -/
theorem test_errStart :
    (nextOf (exec .errStart State.reset)).map (fun t => (t.errors, t.halted)) =
      some ([.start], true) := by decide

/-- V-BL-6: with `ERROR_HANDLER_RETURNS`. -/
theorem test_errAddrNack :
    (nextOf (exec .errAddrNack { State.reset with params := ⟨false, true⟩ })).map (fun t => (t.errors, t.halted)) =
      some ([.addrNack], false) := by decide

/-- P-1, steps 2 and 3: the START completes; the handler sends the address byte. -/
theorem test_step_interrupt :
    (nextOf (step (sending 0x0100#16 3#16 false Status.start))).map
      (fun t => (t.dr, t.cr.word, t.inHandler, t.env.pend)) = some (0xD0#8, 0x05#8, false, .tx 0xD0#8) := by decide

/-- V-DI-6: with `gie = 0` the handler does not run. -/
theorem test_step_masked :
    (nextOf (step { sending 0x0100#16 3#16 false Status.slawAck with gie := false })).map
      (fun t => (t.dr, t.inst.txLen)) = some (0xD1#8, 3#16) := by decide

/-- V-PR-14: the STOP goes out, without a completion. -/
theorem test_step_stop :
    (nextOf (step { coded false false false Status.txdAck with
        env := flying .stop, envMoves := [.reply true 0#8] })).map
      (fun t => (t.cr.word, t.sr.word, t.wire, t.env.busOwned)) = some (0x04#8, 0xF8#8, [.stop], false) := by decide

/-- R317, R137: after a START that returned false, with the bus owned, STOP is out of order. -/
theorem test_stop_after_failed_start :
    ((nextOf (hostTurn { held .startWait Status.arbLost with env := owned })).bind fun t =>
      refusalOf (exec .stopCondition t)) = some .outOfSequence := by decide

/-- R321: after an asynchronous transfer whose STOP was suppressed, STOP releases the bus. -/
theorem test_stop_after_suppressed :
    ((nextOf (step (sending 0x0103#16 0#16 true Status.txdAck))).bind fun t => nextOf (exec .stopCondition t)).map
      (fun t => t.env.pend) = some .stop := by decide

/-- R318: STOP after a read that was acknowledged; R137: no read after the last one. -/
theorem test_after_reads :
    let read (k : Bool) := (nextOf (exec (.byteReadAckNack k)
      { coded true false false Status.slarAck with seq := .reading, env := owned })).bind fun t =>
        nextOf (hostTurn { t with cr := (coded true false false 0#5).cr, sr := ⟨Status.rxdAck, 0#2⟩ })
    ((read true).bind fun t => nextOf (exec .stopCondition t)).isSome = true ∧
    ((read false).bind fun t => refusalOf (exec (.byteReadAckNack false) t)) = some .outOfSequence := by decide

/-- R136, R137: no STOP behind a STOP, not even when the unconstrained oracle (R71) has completed it with a code; START is
in order there, and STOP again once a START has been commanded. -/
theorem test_no_stop_after_answered_stop :
    let after := (nextOf (exec .stopCondition { coded true false false Status.txdAck with seq := .writing, env := owned })).map
      (envStep (.answer Status.txdAck none false [.stop]))
    after.map (fun t => (t.cr.int, t.env.busOwned)) = some (true, true) ∧
    (after.bind fun t => refusalOf (exec .stopCondition t)) = some .outOfSequence ∧
    ((after.bind fun t => nextOf (exec .startCondition t)).map fun t => (t.env.pend, t.env.stopGiven)) =
      some (.start, false) := by decide

/-- R137: a blocking transaction begins with START, which is out of order after a START. -/
theorem test_masterSend_after_start :
    refusalOf (exec (.masterSend 0x0100#16 3#16 0x68#8 false)
      { coded true false false Status.start with seq := .started, env := owned }) = some .outOfSequence := by decide

/-- R78: whether a STOP is on the wire is settled when it is commanded: as master, though `Init` makes the block a slave
before the STOP goes out. -/
theorem test_stop_then_slave :
    ((nextOf (exec .stopCondition { coded true false false Status.txdAck with seq := .writing, env := owned })).bind
      fun t => (nextOf (exec (.init 100000#32 0x2A#8 .slave) t)).bind fun u =>
        nextOf (step { u with envMoves := [.reply true 0#8] })).map (fun t => (t.wire, t.env.pend)) =
      some ([.stop], .listen) := by decide

/-- R68: while `CR.INT = 1` ENV changes nothing, the unconstrained oracle included. -/
theorem test_env_waits_for_release :
    envStep (.answer Status.noInfo (some 0xEE#8) false [.stop]) (answered 0x52#8 [] Status.ssRxdAck) =
      answered 0x52#8 [] Status.ssRxdAck := by decide

/-- R245: a callback that never returns stops the whole system, here after a transmit's end. -/
theorem test_callback_noReturn :
    faultOf (step { sending 0x0103#16 0#16 true Status.txdAck with callbacks := [[.noReturn]] }) =
      some .callbackContract := by decide

/-- Bytes after the last operand are dropped (log entry 6). -/
theorem test_command_surplus_bytes :
    decode ⟨.hostcmd, false, [0x3#8, 0x41#8, 0xFF#8]⟩ = .ok (.byteWrite 0x41#8, [0xFF#8]) := by rfl

/-- V-EN-14, on the register port: the control word 0xD4 (log entry 1). -/
theorem test_step_controlWord :
    (nextOf (step (State.reset.withFetchWord 8 0xD4))).map (fun t => (t.cr.word, t.env.pend, t.portWord)) =
      some (0x54#8, .stop, none) := by decide
/-! ### Witnesses: states and operands that meet the hypotheses of the obligations -/

theorem test_meets_DecodeOfEncodeIsInstruction :
    (Instr.masterSend 0xFFFF#16 0xFFFF#16 0x7F#8 true).wellFormed = true ∧
    (Instr.init 0xFFFFFFFF#32 0x00#8 .slave).wellFormed = true := by decide

theorem test_meets_DecodedWordIsItsEncoding :
    decode ⟨.status, true, [0x2F#8, 0x01#8]⟩ = .ok (.stTxdAckMore, [0x01#8]) ∧
    decode ⟨.hostcmd, false, [0x2#8, 0x7F#8, 0x01#8, 0xFF#8]⟩ = .ok (.addressTx 0x7F#8 .read, [0xFF#8]) := by
  and_intros <;> rfl

theorem test_meets_AddressByte : 0x7F < (0x80#8 : Byte).toNat ∧ 0x7F < (0xFF#8 : Byte).toNat := by decide

theorem test_meets_HandlerDispatch :
    (∀ c : Code, (coded true false true c).sr.code = c) ∧
    (sending 0x0100#16 1#16 false 0b00101#5).inst.txLen ≠ 0#16 ∧
    (sending 0x0100#16 0#16 false 0b00101#5).inst.txLen = 0#16 := ⟨fun _ => rfl, by decide, rfl⟩

theorem test_meets_StepRunsHandlerArm :
    ResetNotNext { sending 0x0100#16 1#16 false Status.start with halted := true } ∧
    ResetNotNext (sending 0x0100#16 1#16 false Status.start) ∧
    (let s := sending 0x0100#16 1#16 false Status.start;
      s.halted = false ∧ s.cr.int = true ∧ s.cr.ie = true ∧ s.gie = true ∧ s.inHandler = false) ∧
    ResetNotNext (waiting .startWait) ∧ (waiting .startWait).halted = false ∧ (waiting .startWait).cr.int = false ∧
    (waiting .startWait).portWord = none ∧
    ResetNotNext (held .startWait Status.start) ∧ (held .startWait Status.start).cr.ie = false := by
  and_intros <;> rfl

/-- HOST's or ENV's move comes: without a completion, and with one that no handler takes. -/
theorem test_meets_AgentsMove : AgentsMove (waiting .readWait) ∧ AgentsMove (held .readWait Status.rxdNack) :=
  ⟨⟨rfl, rfl, .inl rfl, rfl⟩, rfl, rfl, .inr (.inl rfl), rfl⟩

/-- A command that is run, one with an address the decoder refuses (V-EN-7), one cut short; with HOST's turn laid down, by
the eager schedule with nothing in flight, and with something in flight that ENV never answers. -/
theorem test_meets_StepRunsIssuedCommand :
    let s (w : List Byte) := poised w []
    (∀ w turns, AgentsMove { s w with turns := .host :: turns } ∧ AgentsMove (s w) ∧ (s w).host = .idle ∧
      (s w).app = .command w :: []) ∧
    decode ⟨.hostcmd, false, [0x5#8]⟩ = .ok (.stopCondition, []) ∧
    decode ⟨.hostcmd, false, [0x2#8, 0xE8#8, 0x00#8]⟩ = .error .addressRange ∧
    decode ⟨.hostcmd, false, [0x8#8, 0x00#8]⟩ = .error .truncated ∧
    (s []).turns = [] ∧ (s []).env.pend = .none ∧
    { s [] with env := flying .rx }.env.pend ≠ .none ∧ { s [] with env := flying .rx }.envMoves = [] :=
  ⟨fun _ _ => ⟨⟨rfl, rfl, .inl rfl, rfl⟩, ⟨rfl, rfl, .inl rfl, rfl⟩, rfl, rfl⟩, rfl, rfl, rfl, rfl, rfl,
    by decide, rfl⟩

theorem test_meets_StepRunsIssuedCommand_controlWord :
    let s (w : List Byte) : State := { held .readWait Status.rxdNack with portWord := some w }
    (∀ w, ResetNotNext (s w) ∧ (s w).halted = false ∧ (s w).cr.ie = false ∧ (s w).portWord = some w) ∧
    decode ⟨.cr, false, [0xD4#8]⟩ = .ok (.cmdStop true false, []) ∧
    decode ⟨.cr, false, [0xB4#8]⟩ = .error .notACommand := ⟨fun _ => ⟨rfl, rfl, rfl, rfl⟩, rfl, rfl⟩

/-- Each schedule, and each move of an idle and of a held HOST. -/
theorem test_meets_AgentMoves :
    (∀ turns, AgentsMove { waiting .readWait with turns := .host :: turns } ∧
      AgentsMove { waiting .readWait with turns := .env :: turns, envMoves := [.busError] } ∧
      AgentsMove { waiting .readWait with turns := .env :: turns }) ∧
    (let s : State := { waiting .readWait with env := flying .rx, envMoves := [.reply true 1#8] };
      AgentsMove s ∧ s.turns = [] ∧ s.env.pend ≠ .none ∧ s.envMoves = [.reply true 1#8]) ∧
    (let s : State := { waiting .readWait with env := flying .rx };
      AgentsMove s ∧ s.turns = [] ∧ s.envMoves = []) ∧
    (AgentsMove (waiting .readWait) ∧ (waiting .readWait).env.pend = .none) :=
  ⟨fun _ => ⟨⟨rfl, rfl, .inl rfl, rfl⟩, ⟨rfl, rfl, .inl rfl, rfl⟩, rfl, rfl, .inl rfl, rfl⟩,
    ⟨⟨rfl, rfl, .inl rfl, rfl⟩, rfl, by decide, rfl⟩, ⟨⟨rfl, rfl, .inl rfl, rfl⟩, rfl, rfl⟩,
    ⟨rfl, rfl, .inl rfl, rfl⟩, rfl⟩

theorem test_meets_AgentMoves_host :
    let s (m : AppMove) : State := { coded false false false Status.noInfo with app := [m] };
    (s (.store 0xFFFF#16 1#8)).host = .idle ∧ (s (.store 0xFFFF#16 1#8)).app = [.store 0xFFFF#16 1#8] ∧
    (s (.setGie false)).app = [.setGie false] ∧
    (s .waitReady).app = [.waitReady] ∧ (s .waitReady).inst.state = .ready ∧
    { sending 1#16 1#16 false Status.start with app := [.waitReady] }.inst.state ≠ .ready ∧
    (coded false false false Status.noInfo).app = [] ∧
    (waiting .readWait).host ≠ .idle ∧ (waiting .readWait).cr.int = false := by
  and_intros <;> first | rfl | decide

theorem test_meets_StuckHostNeverLeaves :
    let s := waiting (.sendByte 0x0101#16 2#16 false)
    s.host ≠ .idle ∧ s.cr.int = false ∧ s.env.pend = .none ∧ s.env.stopFirst = false ∧
    s.portWord = none ∧ NoReset s := by
  unfold NoReset; decide

theorem test_meets_ResetInputRestoresState :
    { sending 0x0100#16 3#16 false Status.start with turns := [.rst true [(0x0100#16, 1#8)], .host] }.turns =
      [.rst true [(0x0100#16, 1#8)], .host] := rfl

/-- The invariant in an open asynchronous send, and a step from there. -/
theorem test_meets_StepKeepsInvariant :
    Inv (sending 0x0100#16 3#16 false Status.start) ∧
    ∃ t, step (sending 0x0100#16 3#16 false Status.start) = .next t ∧ t.dr = 0xD0#8 :=
  ⟨by constructor <;> decide, _, rfl, rfl⟩

theorem test_meets_MemoryWriteThenRead : Memory.wf [(0, 0x41#8), (0xFFFF, 0x01#8)] = true := by decide

/-- Both values of the flag; a STOP commanded in the role of a slave, as the answer to a bus error, and as neither. -/
theorem test_meets_ControllerCommands_CommandRows :
    (coded true true true Status.start).cr.int = true ∧ (coded false true true Status.start).cr.int = false ∧
    (answered 0#8 [] Status.ssRxdAck).inst.cfg.role = .slave ∧
    (sending 0x0101#16 2#16 false Status.busError).sr.code = Status.busError ∧
    (coded true false false Status.txdAck).sr.code ≠ Status.busError ∧
    (coded true false false Status.txdAck).inst.cfg.role ≠ .slave := by decide

theorem test_meets_Init :
    State.reset.inst.state = .ready ∧ State.reset.cr.ie = false ∧ (0x7F#8 : Byte).toNat ≤ 0x7F ∧
    (sending 1#16 1#16 false Status.start).inst.state ≠ .ready ∧ (coded false false true Status.noInfo).cr.ie = true ∧
    0x7F < (0x80#8 : Byte).toNat := by decide

/-- A blocking operation may run: with the interrupt disabled, or masked. -/
theorem test_meets_BlockingAllowed :
    BlockingAllowed (coded false false false Status.noInfo) ∧
    BlockingAllowed { coded true true true Status.noInfo with gie := false } := by
  unfold BlockingAllowed; decide

theorem test_meets_StartCondition :
    BlockingAllowed (coded false false false Status.noInfo) ∧ (coded false false false Status.noInfo).seq ≠ .started ∧
    (held .startWait Status.start).host = .startWait ∧ (held .startWait Status.start).cr.int = true ∧
    (held .startWait Status.rstart).sr.code = Status.rstart ∧
    (held .startWait Status.slawAck).sr.code ≠ Status.start ∧
    (held .startWait Status.slawAck).sr.code ≠ Status.rstart := by
  unfold BlockingAllowed; decide

theorem test_meets_AddressTx :
    BlockingAllowed { coded true false false Status.start with seq := .started } ∧ (0x7F#8 : Byte).toNat ≤ 0x7F ∧
    BlockingAllowed { coded false false false Status.start with seq := .started } ∧
    (held (.addressWait .read) Status.slarAck).cr.int = true ∧
    (held (.addressWait .read) Status.slarAck).sr.code = Status.slarAck ∧
    (held (.addressWait .write) Status.slawAck).sr.code = Status.slawAck ∧
    (held (.addressWait .write) Status.slarAck).sr.code ≠ Status.slawAck ∧
    (held (.addressWait .read) Status.slawAck).sr.code ≠ Status.slarAck := by
  unfold BlockingAllowed; decide

theorem test_meets_ByteWrite :
    BlockingAllowed { coded true false false Status.slawAck with seq := .writing } ∧
    BlockingAllowed { coded false false false Status.slawAck with seq := .writing } ∧
    (held .writeWait Status.txdAck).host = .writeWait ∧ (held .writeWait Status.txdAck).cr.int = true := by
  unfold BlockingAllowed; decide

theorem test_meets_ByteReadAckNack :
    BlockingAllowed { coded true false false Status.slarAck with seq := .reading } ∧
    BlockingAllowed { coded true false false Status.rxdAck with seq := .reading } ∧
    BlockingAllowed { coded true false false Status.rxdNack with seq := .reading } ∧
    (held .readWait Status.rxdNack).host = .readWait ∧ (held .readWait Status.rxdNack).cr.int = true := by
  unfold BlockingAllowed; decide

theorem test_meets_StopCondition :
    let s : State := { coded true false false Status.txdAck with seq := .writing, env := owned }
    BlockingAllowed s ∧ s.env.busOwned = true ∧ s.env.stopGiven = false ∧ s.seq ≠ .started ∧
    s.seq ≠ .startFailed ∧ (coded true false false Status.txdAck).env.busOwned = false ∧
    (let t := { s with seq := .closed, env := { owned with stopGiven := true } };
      BlockingAllowed t ∧ t.env.stopGiven = true) := by
  unfold BlockingAllowed; decide

/-- Each clause's own condition, with a blocking operation allowed beside it. -/
theorem test_meets_PrimitiveOrder :
    let s (q : HostSeq) (c : Code) : State := { coded true false false c with seq := q }
    (held .startWait Status.start).cr.int = true ∧ (held (.addressWait .read) Status.slarAck).cr.int = true ∧
    BlockingAllowed (s .started Status.start) ∧ (s .started Status.start).seq = .started ∧
    BlockingAllowed (s .closed Status.noInfo) ∧ 0x7F < (0x80#8 : Byte).toNat ∧ (0x7F#8 : Byte).toNat ≤ 0x7F ∧
    (s .closed Status.noInfo).seq ≠ .started ∧ (s .closed Status.noInfo).seq ≠ .writing ∧
    (s .closed Status.noInfo).seq ≠ .reading ∧ (s .closed Status.noInfo).env.busOwned = false ∧
    BlockingAllowed (s .startFailed Status.arbLost) ∧ (s .startFailed Status.arbLost).seq = .startFailed ∧
    BlockingAllowed (s .readDone Status.rxdAck) ∧ (s .readDone Status.rxdAck).seq ≠ .reading ∧
    BlockingAllowed (s .reading Status.rxdNack) ∧ (s .reading Status.rxdNack).sr.code ≠ Status.slarAck ∧
    (s .reading Status.rxdNack).sr.code ≠ Status.rxdAck ∧
    (let t := { coded true false false Status.txdAck with env := { owned with stopGiven := true } };
      BlockingAllowed t ∧ t.env.busOwned = true ∧ t.env.stopGiven = true) := by
  unfold BlockingAllowed; decide

/-- The endings of an order: STOP, an accepted asynchronous call and an ignored one, a blocking transaction; and `Init`, which
leaves it. -/
theorem test_meets_PrimitiveOrder_next :
    (∃ t, hostTurn (held .startWait Status.start) = .next t) ∧
    (∃ t, hostTurn (held (.addressWait .write) Status.slawNack) = .next t) ∧
    (∃ t, exec (.byteReadAckNack false) { coded true false false Status.rxdAck with seq := .reading } = .next t) ∧
    (∃ t, exec .stopCondition { coded true false false Status.txdAck with seq := .writing, env := owned } = .next t) ∧
    (let s : State := { coded true false false Status.slawAck with seq := .writing };
      s.inst.state = .ready ∧ (∃ t, exec (.masterSendAsync 0x0100#16 1#16 0x68#8 false) s = .next t) ∧
      (∃ t, exec (.masterSendAsync 0x0100#16 0#16 0x68#8 false) s = .next t) ∧
      (∃ t, exec (.masterReceive 0x0100#16 1#16 0x68#8 false) s = .next t) ∧
      ∃ t, exec (.init 100000#32 0x00#8 .master) s = .next t) :=
  ⟨⟨_, rfl⟩, ⟨_, rfl⟩, ⟨_, rfl⟩, ⟨_, rfl⟩, rfl, ⟨_, rfl⟩, ⟨_, rfl⟩, ⟨_, rfl⟩, _, rfl⟩

theorem test_meets_BlockingOperationsRefused :
    State.reset.cr.en = false ∧
    (let s : State := { coded true false true Status.start with inHandler := true };
      s.cr.en = true ∧ s.inHandler = true) ∧
    (let s := answered 0#8 [] Status.noInfo;
      s.cr.en = true ∧ s.inHandler = false ∧ s.delivering = none ∧ s.inst.cfg.role = .slave) ∧
    (let s := sending 1#16 1#16 false Status.start;
      s.cr.en = true ∧ s.inHandler = false ∧ s.delivering = none ∧ s.inst.cfg.role = .master ∧
        s.inst.state ≠ .ready) ∧
    (let s := coded false false true Status.noInfo;
      s.cr.en = true ∧ s.inHandler = false ∧ s.delivering = none ∧ s.inst.cfg.role = .master ∧
        s.inst.state = .ready ∧ s.cr.ie = true ∧ s.gie = true) := by decide

/-- The buffers that fit, at their boundaries, and those that do not. -/
theorem test_meets_BlockingTransactionsStart_buffers :
    BufferFits 0x0000#16 0#16 ∧ BufferFits 0x0001#16 0xB7#16 ∧ BufferFits 0x00BE#16 0xFF42#16 ∧
    BufferFits 0xFFFD#16 3#16 ∧
    ((1#16 : Len) ≠ 0#16 ∧ (0#16 : Ptr) = 0#16) ∧ 65536 < (0xFFFE#16 : Ptr).toNat + (3#16 : Len).toNat ∧
    BlockingAllowed (coded false false false Status.noInfo) ∧ (coded false false false Status.noInfo).seq ≠ .started ∧
    (0x7F#8 : Byte).toNat ≤ 0x7F ∧ 0x7F < (0x80#8 : Byte).toNat := by
  simp only [bufferFits_iff]
  unfold BlockingAllowed; decide

/-- Buffers that hold the lowest and the highest register address, at their last and at their first byte. -/
theorem test_meets_buffersOverRegisters :
    (∃ r : Reg, (0x0001#16 : Ptr).toNat ≤ r.address ∧ r.address < (0x0001#16 : Ptr).toNat + (0xB8#16 : Len).toNat) ∧
    (∃ r : Reg, (0x00BD#16 : Ptr).toNat ≤ r.address ∧ r.address < (0x00BD#16 : Ptr).toNat + (1#16 : Len).toNat) ∧
    (0x00BD#16 : Ptr) ≠ 0#16 ∧ (0x00BD#16 : Ptr).toNat + (1#16 : Len).toNat ≤ 65536 :=
  ⟨⟨.br, by decide⟩, ⟨.amr, by decide⟩, by decide, by decide⟩

/-- No START waits for its address there. -/
theorem poised_order (w : List Byte) (moves : List EnvMove) : (poised w moves).seq ≠ .started := HostSeq.noConfusion

theorem poised_word (w : List Byte) (moves : List EnvMove) : Poised (poised w moves) w moves :=
  ⟨rfl, rfl, rfl, rfl, rfl, rfl, rfl, rfl, rfl, ⟨rfl, rfl⟩, rfl, rfl, rfl, rfl⟩

/-- Three bytes with the first not acknowledged (V-BL-4), and no byte at all. -/
theorem test_meets_BlockingSendRun :
    (∃ s, Poised s (encode (.masterSend 0x0100#16 3#16 0x7F#8 false)).bytes
      (acknowledging 2 ++ answering [false, true, true] ++ acknowledging 1 ++ []) ∧ s.seq ≠ .started) ∧
    (∃ s, Poised s (encode (.masterSend 0x0000#16 0#16 0x00#8 true)).bytes (acknowledging 2 ++ answering [] ++ [] ++ []) ∧
      s.seq ≠ .started) ∧
    (0x7F#8 : Byte).toNat ≤ 0x7F ∧ BufferFits 0x0100#16 3#16 ∧ BufferFits 0x0000#16 0#16 ∧
    [false, true, true].length = (3#16 : Len).toNat :=
  ⟨⟨_, poised_word _ _, poised_order _ _⟩, ⟨_, poised_word _ _, poised_order _ _⟩, by decide, bufferFits_iff.2 (by decide), bufferFits_iff.2 (by decide), rfl⟩

/-- Two bytes with a repeated start; one byte with STOP (P-6); no byte at all. -/
theorem test_meets_BlockingReceiveRun :
    (∃ s, Poised s (encode (.masterReceive 0x0200#16 2#16 0x68#8 true)).bytes
      (acknowledging 2 ++ yielding [0x01#8, 0x02#8] ++ [] ++ []) ∧ s.mem.wf = true ∧ s.seq ≠ .started) ∧
    (∃ s, Poised s (encode (.masterReceive 0x0200#16 1#16 0x7F#8 false)).bytes
      (acknowledging 2 ++ yielding [0xAA#8] ++ acknowledging 1 ++ []) ∧ s.mem.wf = true ∧ s.seq ≠ .started) ∧
    (∃ s, Poised s (encode (.masterReceive 0x0000#16 0#16 0x00#8 false)).bytes
      (acknowledging 2 ++ yielding [] ++ acknowledging 1 ++ []) ∧ s.mem.wf = true ∧ s.seq ≠ .started) ∧
    (0x68#8 : Byte).toNat ≤ 0x7F ∧ (0x7F#8 : Byte).toNat ≤ 0x7F ∧ BufferFits 0x0200#16 2#16 ∧ BufferFits 0x0200#16 1#16 ∧
    BufferFits 0x0000#16 0#16 ∧ [0x01#8, 0x02#8].length = (2#16 : Len).toNat :=
  ⟨⟨_, poised_word _ _, by decide, poised_order _ _⟩, ⟨_, poised_word _ _, by decide, poised_order _ _⟩, ⟨_, poised_word _ _, by decide, poised_order _ _⟩, by decide,
    by decide, bufferFits_iff.2 (by decide), bufferFits_iff.2 (by decide), bufferFits_iff.2 (by decide), rfl⟩

theorem test_meets_BlockingFailures :
    let s := held (.sendStart 0x0100#16 3#16 0x68#7 false) Status.arbLost
    s.cr.int = true ∧ s.host = .sendStart 0x0100#16 3#16 0x68#7 false ∧ s.sr.code ≠ Status.start ∧
    s.sr.code ≠ Status.rstart ∧
    (held (.sendAddress 0x0100#16 3#16 false) Status.slawNack).sr.code ≠ Status.slawAck ∧
    (held (.receiveAddress 0x0100#16 3#16 false) Status.slawAck).sr.code ≠ Status.slarAck := by decide

/-- The address phase: a START code, and the ACK code of the address, with a byte left and with none. -/
theorem test_meets_TransactorSteps_address :
    (held (.sendStart 0x0100#16 3#16 0x68#7 false) Status.rstart).cr.int = true ∧
    (held (.sendStart 0x0100#16 3#16 0x68#7 false) Status.rstart).sr.code = Status.rstart ∧
    (held (.sendStart 0x0100#16 3#16 0x68#7 false) Status.rstart).host = .sendStart 0x0100#16 3#16 0x68#7 false ∧
    (held (.receiveStart 0x0200#16 0#16 0x68#7 true) Status.start).host = .receiveStart 0x0200#16 0#16 0x68#7 true ∧
    (held (.sendAddress 0x0100#16 1#16 false) Status.slawAck).host = .sendAddress 0x0100#16 1#16 false ∧
    (held (.sendAddress 0x0100#16 0#16 false) Status.slawAck).sr.code = Status.slawAck ∧
    (held (.receiveAddress 0x0200#16 1#16 false) Status.slarAck).host = .receiveAddress 0x0200#16 1#16 false ∧
    (held (.receiveAddress 0x0200#16 0#16 true) Status.slarAck).sr.code = Status.slarAck := by decide

theorem test_meets_TransactorSteps :
    (held (.sendByte 0x0102#16 1#16 false) Status.txdNack).cr.int = true ∧
    (held (.sendByte 0x0102#16 1#16 false) Status.txdNack).host = .sendByte 0x0102#16 1#16 false ∧
    (1#16 : Len) ≠ 0#16 ∧ (held (.sendByte 0x0103#16 0#16 true) Status.txdNack).host = .sendByte 0x0103#16 0#16 true ∧
    (held (.receiveByte 0x0200#16 2#16 false) Status.busError).host = .receiveByte 0x0200#16 2#16 false ∧
    (2#16 : Len) ≠ 1#16 ∧
    (held (.receiveByte 0x0201#16 1#16 true) Status.rxdNack).host = .receiveByte 0x0201#16 1#16 true := by decide

/-- Admitted and accepted; admitted and ignored (busy, or length 0). -/
theorem test_meets_AsyncEntryPoints :
    EntryAllowed 0x7F#8 (coded false false false Status.noInfo) ∧
    (coded false false false Status.noInfo).inst.state = .ready ∧ (1#16 : Len) ≠ 0#16 ∧
    ((0xFFFF#16 : Ptr) ≠ 0#16 ∧ BufferFits 0xFFFF#16 1#16) ∧ ((0x0001#16 : Ptr) ≠ 0#16 ∧ BufferFits 0x0001#16 0#16) ∧
    EntryAllowed 0x00#8 (receiving 1#16 1#16 false 0#8 Status.start) ∧
    (receiving 1#16 1#16 false 0#8 Status.start).inst.state ≠ .ready := by
  simp only [bufferFits_iff]
  unfold EntryAllowed; decide

theorem test_meets_AsyncEntryRefused :
    State.reset.cr.en = false ∧
    ((answered 0#8 [] Status.noInfo).cr.en = true ∧ (answered 0#8 [] Status.noInfo).inst.cfg.role = .slave) ∧
    ((coded false false false Status.noInfo).cr.en = true ∧
      (coded false false false Status.noInfo).inst.cfg.role = .master ∧ 0x7F < (0x80#8 : Byte).toNat) ∧
    (EntryAllowed 0x7F#8 (coded false false false Status.noInfo) ∧
      (coded false false false Status.noInfo).inst.state = .ready ∧ (3#16 : Len) ≠ 0#16 ∧
      65536 < (0xFFFE#16 : Ptr).toNat + (3#16 : Len).toNat) ∧
    (EntryAllowed 0x7F#8 (sending 1#16 1#16 false Status.start) ∧
      (sending 1#16 1#16 false Status.start).inst.state ≠ .ready) := by
  unfold EntryAllowed; decide

theorem test_meets_ExplicitClose :
    (let s := coded false false false Status.noInfo;
      s.cr.en = true ∧ s.inst.state = .ready ∧ s.inst.cfg.role = .master) ∧
    (let s : State := { sending 0x0101#16 2#16 true Status.busError with dead := true };
      s.cr.en = true ∧ s.inst.state = .busyTx ∧ s.dead = true) ∧
    (let s : State := { receiving 0x0202#16 1#16 false 0#8 Status.busError with dead := true };
      s.cr.en = true ∧ s.inst.state = .busyRx ∧ s.dead = true) ∧
    State.reset.cr.en = false ∧
    (let s := answered 0#8 [] Status.noInfo;
      s.cr.en = true ∧ s.inst.state = .ready ∧ s.inst.cfg.role = .slave) ∧
    (sending 1#16 1#16 false Status.start).dead = false ∧
    (receiving 1#16 1#16 false 0#8 Status.start).dead = false := by decide

theorem test_meets_CloseIsIdempotent :
    let s : State := { sending 0x0101#16 2#16 true Status.busError with dead := true }
    let r : State := { receiving 0x0202#16 1#16 false 0#8 Status.busError with dead := true }
    s.inst.cfg.role = .master ∧ (∃ t, exec .closeSend s = .next t) ∧
    r.inst.cfg.role = .master ∧ ∃ t, exec .closeReceive r = .next t := ⟨rfl, ⟨_, rfl⟩, rfl, _, rfl⟩

theorem test_meets_SlaveDataOperations :
    let s (ev : Option Event) : State := { answered 0x52#8 [] Status.ssRxdAck with delivering := ev }
    ((s (some .dataReq)).cr.en = true ∧ (s (some .dataReq)).cr.int = true ∧
      (s (some .dataReq)).delivering = some .dataReq) ∧
    (s (some .dataRcv)).delivering = some .dataRcv ∧ State.reset.cr.en = false ∧
    (s none).delivering ≠ some .dataReq ∧ (s none).delivering ≠ some .dataRcv ∧
    { coded false true true Status.ssSlarAck with delivering := some .dataReq }.cr.int = false := by decide

theorem test_meets_StartArms :
    (sending 1#16 1#16 false Status.start).inst.state = .busyTx ∧ (sending 1#16 1#16 false Status.start).cr.int = true ∧
    (receiving 1#16 1#16 false 0#8 Status.start).inst.state = .busyRx ∧
    (receiving 1#16 1#16 false 0#8 Status.start).cr.int = true ∧
    (coded true false true Status.start).inst.state = .ready := by decide

theorem test_meets_HandOverArms :
    let s := sending 0xFFFF#16 1#16 false Status.slawAck
    s.inst.state = .busyTx ∧ s.inst.txLen ≠ 0#16 ∧ s.inst.pTx ≠ 0#16 ∧ s.cr.int = true := by decide

/-- With nothing left (R191) and with a byte left (R192). -/
theorem test_meets_TransmitEndings :
    let s (len : Len) := sending 0x0102#16 len false Status.txdNack
    (s 0#16).inst.state = .busyTx ∧ (s 0#16).inst.txLen = 0#16 ∧ QuietCallback (s 0#16) ∧
    (s 1#16).inst.state = .busyTx ∧ QuietCallback (s 1#16) := by unfold QuietCallback; decide

theorem test_meets_ReceiveArms_ReceiveEndings :
    let s (len : Len) := receiving 0xFFFF#16 len false 0xAA#8 Status.rxdAck
    (s 1#16).inst.state = .busyRx ∧ (s 1#16).inst.rxLen ≠ 0#16 ∧ (s 1#16).inst.pRx ≠ 0#16 ∧
    (s 1#16).mem.wf = true ∧ QuietCallback (s 1#16) ∧ (s 0xFFFF#16).inst.rxLen ≠ 0#16 := by
  unfold QuietCallback; decide

theorem test_meets_ReceiveArms_next :
    ∃ t, exec .stRxdAck (receiving 0x0200#16 2#16 false 0xAA#8 Status.rxdAck) = .next t := ⟨_, rfl⟩

theorem test_meets_BusErrorArm : QuietCallback (sending 0x0101#16 2#16 false Status.busError) := rfl

theorem test_meets_MasterGuardsFault :
    (coded true false true Status.start).inst.state = .ready ∧
    (receiving 1#16 0#16 false 0#8 Status.slawAck).inst.state ≠ .busyTx ∧
    (sending 1#16 0#16 false Status.slawAck).inst.txLen = 0#16 ∧ (sending 0#16 1#16 false Status.slawAck).inst.pTx = 0#16 ∧
    (sending 1#16 0#16 false Status.slarAck).inst.state ≠ .busyRx ∧
    (receiving 1#16 0#16 false 0#8 Status.rxdAck).inst.rxLen = 0#16 ∧
    (receiving 0#16 1#16 false 0#8 Status.rxdAck).inst.pRx = 0#16 := by decide

theorem test_meets_SlaveRearmArms_SlaveDataArms :
    let s := answered 0x52#8 [] Status.ssSlawAck
    s.inst.cfg.role = .slave ∧ QuietCallback s ∧ s.cr.en = true ∧ s.cr.int = true ∧
    (answered 0x52#8 [.slaveReadByte true] Status.ssRxdNack).nextCallback = [.slaveReadByte true] ∧
    (answered 0x52#8 [.slaveSendByte 1#8] Status.ssTxdAck).nextCallback = [.slaveSendByte 1#8] := by
  unfold QuietCallback; decide

theorem test_meets_SlaveContractFaults :
    let s (ops : List CallbackOp) := answered 0x52#8 ops Status.ssRxdAck
    (s []).inst.cfg.role = .slave ∧ (s []).cr.int = true ∧ (s []).cr.en = true ∧ QuietCallback (s []) ∧
    (s [.noReturn, .setGie true]).nextCallback = .noReturn :: [.setGie true] ∧
    (s [.slaveReadByte true, .noReturn]).nextCallback = .slaveReadByte true :: .noReturn :: [] ∧
    (s [.slaveSendByte 1#8, .noReturn]).nextCallback = .slaveSendByte 1#8 :: .noReturn :: [] ∧
    (s [.slaveSendByte 1#8, .slaveSendByte 2#8]).nextCallback = [.slaveSendByte 1#8, .slaveSendByte 2#8] ∧
    (s [.slaveReadByte true, .slaveReadByte false]).nextCallback = [.slaveReadByte true, .slaveReadByte false] ∧
    (coded true true true Status.ssRxdAck).inst.cfg.role = .master := by unfold QuietCallback; decide

theorem test_meets_Outputs : QuietCallback State.reset := rfl

/-- A callback that chains a read and then never returns. -/
theorem test_meets_Outputs_noReturn :
    let ops : List CallbackOp := [.masterReceiveAsync 0x0200#16 1#16 0x68#8 false]
    let s : State := { coded true false false Status.txdAck with callbacks := [ops ++ [.noReturn]] }
    s.nextCallback = ops ++ .noReturn :: [] ∧
    ∃ t, runCallback ops
      { s with events := s.events ++ [.txCmplt], delivering := some .txCmplt, callbacks := s.callbacks.tail } = .next t :=
  ⟨rfl, _, rfl⟩

/-- A completion is there already. -/
theorem test_meets_EnvWritesOnlyItsOwn : (coded true false true Status.txdAck).cr.int = true := rfl

theorem test_meets_EnvMasterCompletions :
    let s (p : Pending) (own : Bool) (c : Code) : State :=
      { coded false false true c with env := { flying p with busOwned := own } }
    ((s .start false Status.noInfo).cr.int = false ∧ (s .start false Status.noInfo).env.stopFirst = false ∧
      (s .start false Status.noInfo).env.pend = .start) ∧
    (s (.tx 0xD1#8) true Status.rstart).sr.code = Status.rstart ∧
    (s (.tx 0x41#8) true Status.txdNack).sr.code = Status.txdNack ∧
    ((s .rx true Status.slarAck).env.pend = .rx ∧ (s .rx true Status.slarAck).sr.code = Status.slarAck) ∧
    ((s (.tx 0x41#8) true Status.txdAck).inst.cfg.role = .master ∧
      (s (.tx 0x41#8) true Status.txdAck).env.pend = .tx 0x41#8) := by decide

/-- A STOP alone, silent or not, in either role; and a START behind one. -/
theorem test_meets_EnvCompletesStop :
    let s (p : Pending) (first silent : Bool) (r : Role) : State :=
      { coded false false true Status.txdAck with
        inst := { Inst.reset with cfg := { Inst.reset.cfg with role := r } }
        env :=
          { pend := p, busOwned := true, stopFirst := first, stopSilent := silent, stopGiven := decide (p = .stop) } }
    (∀ silent r, (s .stop false silent r).cr.int = false ∧ (s .stop false silent r).env.pend = .stop ∧
      (s .stop false silent r).env.stopSilent = silent ∧ (s .stop false silent r).inst.cfg.role = r) ∧
    ((s .start true false .master).cr.int = false ∧ (s .start true false .master).env.stopFirst = true) := by
  exact ⟨fun _ _ => ⟨rfl, rfl, rfl, rfl⟩, rfl, rfl⟩

/-- ACK enabled and disabled. -/
theorem test_meets_EnvSlaveCompletions :
    let s (ea : Bool) (p : Pending) (c : Code) : State :=
      { answered 0x52#8 [] c with cr := (coded false ea true c).cr, env := { flying p with busOwned := false } }
    ((s true .listen Status.noInfo).cr.int = false ∧ (s true .listen Status.noInfo).env.stopFirst = false ∧
      (s true .listen Status.noInfo).cr.en = true ∧ (s true .listen Status.noInfo).cr.ea = true ∧
      (s true .listen Status.noInfo).env.pend = .listen ∧ (s true .listen Status.noInfo).sr.code ≠ Status.ssSlawAck ∧
      (s true .listen Status.noInfo).sr.code ≠ Status.ssRxdAck) ∧
    ((s false .listen Status.noInfo).cr.int = false ∧ (s false .listen Status.noInfo).cr.en = true ∧
      (s false .listen Status.noInfo).cr.ea = false) ∧
    (s true .listen Status.ssRxdAck).sr.code = Status.ssRxdAck ∧
    (s false .listen Status.ssSlawAck).sr.code = Status.ssSlawAck ∧
    ((s false (.tx 0x11#8) Status.ssSlarAck).env.pend = .tx 0x11#8 ∧
      (s false (.tx 0x11#8) Status.ssSlarAck).sr.code = Status.ssSlarAck) := by decide

theorem test_meets_EnvMayAnswerAnything :
    let s : State := { waiting .readWait with env := flying .rx }
    s.cr.int = false ∧ s.env.pend ≠ .none ∧ s.host ≠ .idle ∧ s.envMoves = [] ∧ s.portWord = none ∧ NoReset s := by
  unfold NoReset; decide

/-- The two entry points from READY, and an ending of each side. -/
theorem test_meets_StateTransitions_InterruptEnableChanges :
    let s := coded false false false Status.noInfo
    let u := sending 0x0103#16 0#16 false Status.txdAck
    QuietCallback s ∧
    (∃ t, exec (.masterSendAsync 0x0100#16 1#16 0x7F#8 false) s = .next t ∧ t.inst.state ≠ s.inst.state ∧
      t.cr.ie ≠ s.cr.ie) ∧
    (∃ t, exec (.masterReceiveAsync 0x0100#16 1#16 0x7F#8 false) s = .next t ∧ t.inst.state ≠ s.inst.state ∧
      t.cr.ie ≠ s.cr.ie) ∧
    QuietCallback u ∧
    ∃ t, exec .stTxdAckLast u = .next t ∧ t.inst.state ≠ u.inst.state ∧ t.cr.ie ≠ u.cr.ie :=
  ⟨rfl, ⟨_, rfl, by decide, by decide⟩, ⟨_, rfl, by decide, by decide⟩, rfl, _, rfl, by decide, by decide⟩

theorem test_meets_OneCodePerInvocation :
    let s : State := { sending 0x0100#16 0#16 true Status.txdAck with
      callbacks := [[.masterReceiveAsync 0x0200#16 1#16 0x68#8 false]] }
    ResetNotNext s ∧ s.halted = false ∧ s.interruptCondition = true ∧ CallbackWithoutInit s ∧ ∃ t, step s = .next t := by
  refine ⟨rfl, rfl, rfl, ?_, _, rfl⟩
  intro op hop speed a r
  rw [show op = .masterReceiveAsync 0x0200#16 1#16 0x68#8 false from List.mem_singleton.1 hop]
  exact CallbackOp.noConfusion

theorem test_meets_UnraisedEventsNeverEmitted :
    let s := poised (encode (.masterSendAsync 0x0100#16 3#16 0x68#8 false)).bytes (acknowledging 6)
    (∃ t, Host.Core.run Sys2Proof.core 2 s = .next t) ∧ ∀ ev ∈ s.events, ev.unraised = false :=
  ⟨⟨_, rfl⟩, by decide⟩

theorem test_meets_ObservationsOnlyGrow :
    let s : State := { sending 0x0100#16 0#16 true Status.txdAck with halted := true }
    ResetNotNext s ∧ s.halted = true ∧ ∃ t, step s = .next t := ⟨rfl, rfl, _, rfl⟩

theorem test_meets_AsyncSendRun :
    (∃ s, Poised s (encode (.masterSendAsync 0x0100#16 1#16 0x7F#8 true)).bytes (acknowledging 3 ++ [] ++ []) ∧ s.gie = true) ∧
    (∃ s, Poised s (encode (.masterSendAsync 0xFFFD#16 3#16 0x68#8 false)).bytes (acknowledging 5 ++ acknowledging 1 ++ []) ∧
      s.gie = true) ∧
    (0x7F#8 : Byte).toNat ≤ 0x7F ∧ (1#16 : Len) ≠ 0#16 ∧ BufferFits 0x0100#16 1#16 ∧ BufferFits 0xFFFD#16 3#16 :=
  ⟨⟨_, poised_word _ _, rfl⟩, ⟨_, poised_word _ _, rfl⟩, by decide, by decide, bufferFits_iff.2 (by decide),
    bufferFits_iff.2 (by decide)⟩

theorem test_meets_AsyncReceiveRun :
    (∃ s, Poised s (encode (.masterReceiveAsync 0x0200#16 2#16 0x68#8 false)).bytes
      (acknowledging 2 ++ yielding [0xAA#8, 0xBB#8] ++ acknowledging 1 ++ []) ∧ s.mem.wf = true ∧ s.gie = true) ∧
    (0x68#8 : Byte).toNat ≤ 0x7F ∧ (2#16 : Len) ≠ 0#16 ∧ BufferFits 0x0200#16 2#16 ∧
    [0xAA#8, 0xBB#8].length = (2#16 : Len).toNat :=
  ⟨⟨_, poised_word _ _, by decide, rfl⟩, by decide, by decide, bufferFits_iff.2 (by decide), rfl⟩

end Sys2Proof.Tests
end

section
/-! PROOFS. The state after reset: Instance State field by field (R45), the six registers (R46). -/

namespace Sys2Proof.Machine

/-! What Instance State and each register hold at reset. -/

@[simp] theorem State.reset_inst : State.reset.inst = Inst.reset := rfl
@[simp] theorem State.reset_cr : State.reset.cr = ControlReg.reset := rfl
@[simp] theorem State.reset_sr : State.reset.sr = StatusReg.reset := rfl
@[simp] theorem State.reset_dr : State.reset.dr = 0xFF#8 := rfl
@[simp] theorem State.reset_ar : State.reset.ar = 0xFE#8 := rfl
@[simp] theorem State.reset_amr : State.reset.amr = 0x00#8 := rfl
@[simp] theorem State.reset_br : State.reset.br = 0x00#8 := rfl

/-! The two registers that have fields, read whole at reset (R91, R92). -/

@[simp] theorem ControlReg.reset_word : ControlReg.reset.word = 0x00#8 := by decide
@[simp] theorem StatusReg.reset_word : StatusReg.reset.word = 0xF8#8 := by decide

/-- R45: every field of Instance State is zero at reset. -/
theorem Inst.reset_zero :
    Inst.reset.cfg.speed = 0#32 ∧ Inst.reset.cfg.ownAddr = 0#7 ∧ Inst.reset.cfg.role = .master ∧
    Inst.reset.pTx = 0#16 ∧ Inst.reset.pRx = 0#16 ∧ Inst.reset.txLen = 0#16 ∧ Inst.reset.rxLen = 0#16 ∧
    Inst.reset.state = .ready ∧ Inst.reset.devAddr = 0#7 ∧ Inst.reset.rep = false := by
  simp [Inst.reset]

/-- Settles O11: Instance State by `Inst.reset_zero`; each register by what it holds at reset and its word read whole. -/
theorem resetLeavesSpecifiedValues : Obligations.ResetLeavesSpecifiedValues := by
  unfold Obligations.ResetLeavesSpecifiedValues
  simp [Inst.reset_zero]

end Sys2Proof.Machine
end

section
/-! PROOFS. The status register word: the code is its bits 7:3 (R94), and the decoder reads nothing else of it. -/

namespace Sys2Proof

theorem codeOf_toNat (w : Byte) : (codeOf w).toNat = w.toNat / 8 := by
  have bound : w.toNat < 256 := w.isLt
  have bits : (codeOf w).toNat = w.toNat / 8 % 32 := by
    simp [codeOf, Nat.shiftRight_eq_div_pow]
  omega

theorem codeOf_and (w m : Byte) : codeOf (w &&& m) = codeOf w &&& codeOf m :=
  BitVec.extractLsb'_and

/-- R94: the mask `0xF8` keeps every bit of the code. -/
theorem codeOf_and_F8 (w : Byte) : codeOf (w &&& 0xF8#8) = codeOf w := by
  have mask : codeOf 0xF8#8 = BitVec.allOnes 5 := by decide
  rw [codeOf_and, mask, BitVec.and_allOnes]

/-- R166: a status word is decoded by its code and the condition on `TxLen` alone. -/
theorem decode_status (bytesRemain : Bool) (w : Byte) (rest : List Byte) :
    decode ⟨.status, bytesRemain, w :: rest⟩ = .ok (armOf bytesRemain (codeOf w), rest) := rfl

/-- Settles O4: the code's value is `codeOf_toNat`; the decoder sees the word only through its code, which the mask
keeps. -/
theorem statusIsTopFiveBits : Obligations.StatusIsTopFiveBits := by
  unfold Obligations.StatusIsTopFiveBits
  refine ⟨codeOf_toNat, fun w bytesRemain rest => ?_⟩
  rw [decode_status, decode_status, codeOf_and_F8]

end Sys2Proof
end

section
/-! PROOFS. The bus primitives' shared rules: when a primitive acts and when it is out of its order (R130, R137), what
each answers in its place, and what HOST does once the busy-wait has seen `CR.INT = 1` (R131). -/

namespace Sys2Proof.Machine

/-! The checks of a primitive (R130), its operand (R96) and its order (R137). -/

theorem BlockingAllowed.refusal_none {s : State} (allowed : BlockingAllowed s) : blockingRefusal s = none := by
  obtain ⟨en, noHandler, noDelivery, master, ready, masked⟩ := allowed
  have outside : s.inCallback = false := by simp [State.inCallback, noHandler, noDelivery]
  have cannotRun : s.handlerCouldRun = false := by
    rcases masked with ie | gie
    · simp [State.handlerCouldRun, ie]
    · simp [State.handlerCouldRun, gie]
  exact blockingRefusal_none.2 ⟨en, outside, master, ready, cannotRun⟩

theorem primitive_of_allowed {operandOk inOrder : Bool} {act : State → Out} {s : State} (allowed : BlockingAllowed s)
    (operand : operandOk = true) (order : inOrder = true) : primitive operandOk inOrder act s = act s := by
  rw [operand, order, primitive_of_ready allowed.refusal_none]

theorem primitive_outOfSequence {operandOk inOrder : Bool} {act : State → Out} {s : State}
    (allowed : BlockingAllowed s) (operand : operandOk = true) (order : inOrder = false) :
    primitive operandOk inOrder act s = .refused .outOfSequence := by
  simp [primitive, allowed.refusal_none, operand, order]

theorem sevenBit_iff {a : Byte} : sevenBit a = true ↔ a.toNat ≤ 0x7F := decide_eq_true_iff

theorem isStartSent_iff {c : Code} : isStartSent c = true ↔ c = Status.start ∨ c = Status.rstart := by
  simp [isStartSent]

theorem isReadPhase_iff {c : Code} : isReadPhase c = true ↔ c = Status.slarAck ∨ c = Status.rxdAck := by
  simp [isReadPhase]

theorem State.startOpen_iff {s : State} : s.startOpen = true ↔ s.seq ≠ .started := decide_eq_true_iff

theorem State.readOpen_iff {s : State} : s.readOpen = true ↔ s.seq = .reading ∧ isReadPhase s.sr.code = true := by
  simp [State.readOpen]

theorem State.stopOpen_iff {s : State} : s.stopOpen = true ↔
    s.env.busOwned = true ∧ s.env.stopGiven = false ∧ s.seq ≠ .started ∧ s.seq ≠ .startFailed := by
  simp [State.stopOpen, and_assoc]

/-! What each primitive answers in its place (R132 to R136). -/

theorem exec_startCondition {s : State} (allowed : BlockingAllowed s) (order : s.startOpen = true) :
    exec .startCondition s = .next ((cmdStart false s).hold .startWait) := by
  change execStartCondition s = _
  rw [execStartCondition, primitive_of_allowed allowed rfl order]

theorem exec_addressTx {s : State} {a : Byte} {d : Dir} (allowed : BlockingAllowed s) (operand : sevenBit a = true)
    (order : s.seq = .started) :
    exec (.addressTx a d) s =
      andThen (cmdXmit (addrByteOf (addr7 a) d) s) fun t => .next (t.hold (.addressWait d)) := by
  change execAddressTx a d s = _
  rw [execAddressTx, primitive_of_allowed allowed operand (decide_eq_true order)]

theorem exec_byteWrite {s : State} {b : Byte} (allowed : BlockingAllowed s) (order : s.seq = .writing) :
    exec (.byteWrite b) s = andThen (cmdXmit b s) fun t => .next (t.hold .writeWait) := by
  change execByteWrite b s = _
  rw [execByteWrite, primitive_of_allowed allowed rfl (decide_eq_true order)]

theorem exec_byteReadAckNack {s : State} {k : Bool} (allowed : BlockingAllowed s) (order : s.readOpen = true) :
    exec (.byteReadAckNack k) s = .next (((cmdArm k s).sequence (readSequence k)).hold .readWait) := by
  change execByteReadAckNack k s = _
  rw [execByteReadAckNack, primitive_of_allowed allowed rfl order]

theorem exec_byteReadAckNack_outOfSequence {s : State} {k : Bool} (allowed : BlockingAllowed s)
    (order : s.readOpen = false) : exec (.byteReadAckNack k) s = .refused .outOfSequence := by
  change execByteReadAckNack k s = _
  rw [execByteReadAckNack, primitive_outOfSequence allowed rfl order]

theorem exec_stopCondition {s : State} (allowed : BlockingAllowed s) (order : s.stopOpen = true) :
    exec .stopCondition s = .next ((cmdStop s).sequence .closed) := by
  change execStopCondition s = _
  rw [execStopCondition, primitive_of_allowed allowed rfl order]

theorem exec_stopCondition_outOfSequence {s : State} (allowed : BlockingAllowed s) (order : s.stopOpen = false) :
    exec .stopCondition s = .refused .outOfSequence := by
  change execStopCondition s = _
  rw [execStopCondition, primitive_outOfSequence allowed rfl order]

/-! What HOST, held in a primitive, answers once `CR.INT = 1` (R131 to R135). -/

theorem hostTurn_of_held {s : State} (held : s.host ≠ .idle) (int : s.cr.int = true) : hostTurn s = hostResume s := by
  unfold hostTurn
  split
  · contradiction
  · simp [int]

theorem hostTurn_startWait {s : State} (held : s.host = .startWait) (int : s.cr.int = true) :
    hostTurn s = returnValue (.bool (isStartSent s.sr.code)) (startSequence (isStartSent s.sr.code)) s := by
  rw [hostTurn_of_held (by simp [held]) int]
  simp [hostResume, held]

theorem hostTurn_addressWait {s : State} {d : Dir} (held : s.host = .addressWait d) (int : s.cr.int = true) :
    hostTurn s = returnValue (.bool (decide (s.sr.code = addressAck d)))
      (if s.sr.code = addressAck d then sequenceOf d else .closed) s := by
  rw [hostTurn_of_held (by simp [held]) int]
  simp [hostResume, held]

theorem hostTurn_writeWait {s : State} (held : s.host = .writeWait) (int : s.cr.int = true) :
    hostTurn s = returnValue (.bool (decide (s.sr.code = Status.txdAck))) s.seq s := by
  rw [hostTurn_of_held (by simp [held]) int]
  simp [hostResume, held]

theorem hostTurn_readWait {s : State} (held : s.host = .readWait) (int : s.cr.int = true) :
    hostTurn s = returnValue (.byte s.dr) s.seq s := by
  rw [hostTurn_of_held (by simp [held]) int]
  simp [hostResume, held]

end Sys2Proof.Machine
end

section
/-! PROOFS. The five bus primitives (40_bus_primitives.md): for each, the command in its place, then the answer. -/

namespace Sys2Proof.Machine

/-- Settles O19: the command by `exec_startCondition`; the answer by `hostTurn_startWait`, split on whether a START code was
seen. -/
theorem startCondition : Obligations.StartCondition := by
  unfold Obligations.StartCondition
  refine ⟨fun s allowed order => exec_startCondition allowed (State.startOpen_iff.2 order), fun s held int => ?_⟩
  rw [hostTurn_startWait held int]
  refine ⟨fun seen => ⟨.started, ?_⟩, fun unseen => ⟨.startFailed, ?_⟩⟩
  · rw [isStartSent_iff.2 seen]
    rfl
  · have notSent : isStartSent s.sr.code = false :=
      Bool.eq_false_iff.2 fun sent => (isStartSent_iff.1 sent).elim unseen.1 unseen.2
    rw [notSent]
    rfl

/-- Settles O20: the command by `exec_addressTx`, where `CR.INT` decides what `cmd_xmit` answers; the answer by
`hostTurn_addressWait`, split on the acknowledge code of the same direction. -/
theorem addressTx : Obligations.AddressTx := by
  unfold Obligations.AddressTx
  refine ⟨fun s a d allowed range order => ?_, fun s d held int => ?_⟩
  · rw [exec_addressTx allowed (sevenBit_iff.2 range) order]
    refine ⟨fun int => ?_, fun noInt => ?_⟩
    · rw [cmdXmit_of_int int]
      rfl
    · rw [cmdXmit_of_not_int noInt, andThen_fault]
  · rw [hostTurn_addressWait held int]
    refine ⟨fun (acked : s.sr.code = addressAck d) => ⟨sequenceOf d, ?_⟩,
      fun (other : s.sr.code ≠ addressAck d) => ⟨.closed, ?_⟩⟩
    · rw [decide_eq_true acked, if_pos acked]
      rfl
    · rw [decide_eq_false other, if_neg other]
      rfl

/-- Settles O21: the command by `exec_byteWrite`, where `CR.INT` decides what `cmd_xmit` answers; the answer by
`hostTurn_writeWait`. -/
theorem byteWrite : Obligations.ByteWrite := by
  unfold Obligations.ByteWrite
  refine ⟨fun s b allowed order => ?_, fun s held int => hostTurn_writeWait held int⟩
  rw [exec_byteWrite allowed order]
  refine ⟨fun int => ?_, fun noInt => ?_⟩
  · rw [cmdXmit_of_int int]
    rfl
  · rw [cmdXmit_of_not_int noInt, andThen_fault]

/-- Settles O22: a read is open in the reads of a receive after a code of the master-receive phase, and closed after any
other code; the answer by `hostTurn_readWait`. -/
theorem byteReadAckNack : Obligations.ByteReadAckNack := by
  unfold Obligations.ByteReadAckNack
  refine ⟨fun s k allowed => ⟨fun reading phase => ⟨readSequence k, ?_⟩, fun notSlar notRxd => ?_⟩,
    fun s held int => hostTurn_readWait held int⟩
  · exact exec_byteReadAckNack allowed (State.readOpen_iff.2 ⟨reading, isReadPhase_iff.2 phase⟩)
  · refine exec_byteReadAckNack_outOfSequence allowed (Bool.eq_false_iff.2 fun opened => ?_)
    exact (isReadPhase_iff.1 (State.readOpen_iff.1 opened).2).elim notSlar notRxd

/-- Settles O23: a STOP is open exactly under `State.stopOpen_iff`, which a bus not owned and a STOP already commanded each
contradict. -/
theorem stopCondition : Obligations.StopCondition := by
  unfold Obligations.StopCondition
  refine fun s allowed => ⟨fun owned notGiven notStarted notFailed => ⟨.closed, ?_⟩, fun closed => ?_⟩
  · exact exec_stopCondition allowed (State.stopOpen_iff.2 ⟨owned, notGiven, notStarted, notFailed⟩)
  · refine exec_stopCondition_outOfSequence allowed (Bool.eq_false_iff.2 fun opened => ?_)
    obtain ⟨owned, notGiven, -, -⟩ := State.stopOpen_iff.1 opened
    rcases closed with notOwned | given
    · simp [notOwned] at owned
    · simp [given] at notGiven

end Sys2Proof.Machine
end

section
/-! PROOFS. The interrupt handler's shared arms and the guards of the master arms (42_interrupt_dispatch.md): the START
arms (R168), the guards (R169), the bus error arm (R172, R173), the unlisted codes (R174). -/

namespace Sys2Proof.Machine

/-! START and repeated START (R168), by the state. -/

theorem armStart_of_busyTx {s : State} (tx : s.inst.state = .busyTx) :
    armStart s = cmdXmit (addrByteOf s.inst.devAddr .write) s := by
  simp [armStart, tx]

theorem armStart_of_busyRx {s : State} (rx : s.inst.state = .busyRx) :
    armStart s = cmdXmit (addrByteOf s.inst.devAddr .read) s := by
  simp [armStart, rx]

theorem armStart_of_ready {s : State} (ready : s.inst.state = .ready) : armStart s = .fault .spuriousStatus := by
  simp [armStart, ready]

/-- R168: both codes select one meaning. -/
theorem exec_startCode {i : Instr} (s : State) (code : i = .stStart ∨ i = .stRstart) : exec i s = armStart s := by
  rcases code with rfl | rfl <;> rfl

/-! The guards of R169: when a byte may be read or stored, and what the arms answer when it may not. -/

theorem State.canSend_iff {s : State} :
    s.canSend = true ↔ s.inst.state = .busyTx ∧ s.inst.txLen ≠ 0#16 ∧ s.inst.pTx ≠ 0#16 := by
  simp only [State.canSend, Bool.and_eq_true, decide_eq_true_eq, and_assoc]
  exact Iff.rfl

theorem State.canStore_iff {s : State} :
    s.canStore = true ↔ s.inst.state = .busyRx ∧ s.inst.rxLen ≠ 0#16 ∧ s.inst.pRx ≠ 0#16 := by
  simp only [State.canStore, Bool.and_eq_true, decide_eq_true_eq, and_assoc]
  exact Iff.rfl

/-- R187, R189: the two arms that hand a byte over fault together. -/
theorem exec_handOver_spurious {s : State} (closed : ¬ s.canSend = true) :
    exec .stSlawAck s = .fault .spuriousStatus ∧ exec .stTxdAckMore s = .fault .spuriousStatus := by
  have spurious : handOver s = .fault .spuriousStatus := if_neg closed
  exact ⟨spurious, spurious⟩

/-- R214, R215: the two arms that store a byte fault together. -/
theorem exec_store_spurious {s : State} (closed : ¬ s.canStore = true) :
    exec .stRxdAck s = .fault .spuriousStatus ∧ exec .stRxdNack s = .fault .spuriousStatus :=
  ⟨if_neg closed, if_neg closed⟩

/-- R188, R191, R192: the three arms that end a transmit fault together outside BUSY_TX. -/
theorem exec_transmitEnd_spurious {s : State} (notTx : s.inst.state ≠ .busyTx) :
    exec .stSlawNack s = .fault .spuriousStatus ∧ exec .stTxdAckLast s = .fault .spuriousStatus ∧
    exec .stTxdNack s = .fault .spuriousStatus := by
  have last : execStTxdAckLast s = .fault .spuriousStatus := by simp [execStTxdAckLast, notTx]
  exact ⟨if_neg notTx, last, if_neg notTx⟩

/-- R212, R213: the two arms that answer a read address fault together outside BUSY_RX. -/
theorem exec_readAddress_spurious {s : State} (notRx : s.inst.state ≠ .busyRx) :
    exec .stSlarAck s = .fault .spuriousStatus ∧ exec .stSlarNack s = .fault .spuriousStatus :=
  ⟨if_neg notRx, if_neg notRx⟩

/-! What the bus error arm leaves before its event (R172, R173), by the switch. -/

theorem busErrorState_of_not_closes {s : State} (off : ¬ s.params.busErrorCloses = true) :
    busErrorState s = { cmdStop s with dead := true } := if_neg off

theorem busErrorState_of_closes {s : State} (on : s.params.busErrorCloses = true) :
    busErrorState s = closeBusySide { cmdStop s with dead := true } := if_pos on

theorem closeBusySide_of_ready {s : State} (ready : s.inst.state = .ready) : closeBusySide s = s := by
  simp [closeBusySide, ready]

theorem closeBusySide_of_busyTx {s : State} (tx : s.inst.state = .busyTx) : closeBusySide s = closeSendOp s := by
  simp [closeBusySide, tx]

theorem closeBusySide_of_busyRx {s : State} (rx : s.inst.state = .busyRx) : closeBusySide s = closeReceiveOp s := by
  simp [closeBusySide, rx]

@[simp] theorem closeBusySide_callbacks (s : State) : (closeBusySide s).callbacks = s.callbacks := by
  unfold closeBusySide
  split <;> rfl

@[simp] theorem busErrorState_callbacks (s : State) : (busErrorState s).callbacks = s.callbacks := by
  by_cases closes : s.params.busErrorCloses = true
  · simp [busErrorState_of_closes closes]
  · simp [busErrorState_of_not_closes closes]

theorem State.nextCallback_congr {s t : State} (same : t.callbacks = s.callbacks) :
    t.nextCallback = s.nextCallback := by
  rw [nextCallback, nextCallback, same]

/-- R172, R276: the bus error arm in front of a callback that does nothing. -/
theorem exec_stBusError_quiet {s : State} (quiet : QuietCallback s) :
    exec .stBusError s = .next (delivered .errBerr (busErrorState s)) := by
  have stillQuiet : (busErrorState s).nextCallback = [] :=
    (State.nextCallback_congr (busErrorState_callbacks s)).trans quiet
  exact notify_quiet stillQuiet

/-! The unlisted codes (R174). -/

/-- The fault carries the code as the spec writes it, `SR & 0xF8`. -/
theorem armUnlisted_of_value {c : Code} {w : Byte} (value : codeByte c = w) :
    armUnlisted c = .fault (.unlistedStatus w) := by
  rw [armUnlisted, value]

/-- Settles O37: both codes are `armStart`, split on the state; while `CR.INT = 1` the address byte is handed over. -/
theorem startArms : Obligations.StartArms := by
  unfold Obligations.StartArms
  intro s i code
  rw [exec_startCode s code]
  refine ⟨fun ⟨tx, int⟩ => ?_, fun ⟨rx, int⟩ => ?_, armStart_of_ready⟩
  · rw [armStart_of_busyTx tx, cmdXmit_of_int int]
  · rw [armStart_of_busyRx rx, cmdXmit_of_int int]

/-- Settles O42: the arm is `notify` after `busErrorState`, which is the state the statement writes out, split on the
switch and the side that is busy. -/
theorem busErrorArm : Obligations.BusErrorArm := by
  unfold Obligations.BusErrorArm
  intro s unclosed sendClosed receiveClosed left
  have leaves : busErrorState s = left := by
    by_cases closes : s.params.busErrorCloses = true
    · rw [busErrorState_of_closes closes]
      simp only [left, if_pos closes]
      cases state : s.inst.state with
      | ready => exact closeBusySide_of_ready state
      | busyTx => exact closeBusySide_of_busyTx state
      | busyRx => exact closeBusySide_of_busyRx state
    · simp only [left, if_neg closes]
      exact busErrorState_of_not_closes closes
  rw [← leaves]
  exact ⟨rfl, exec_stBusError_quiet⟩

/-- Settles O43: the rows about a byte by `State.canSend_iff` and `State.canStore_iff`, the others by the state. -/
theorem masterGuardsFault : Obligations.MasterGuardsFault := by
  unfold Obligations.MasterGuardsFault
  intro s
  refine ⟨fun ready => ?_, fun notTx => ?_, fun noByte => ?_, fun notRx => ?_, fun noRoom => ?_⟩
  · exact ⟨armStart_of_ready ready, armStart_of_ready ready⟩
  · obtain ⟨slawAck, txdAckMore⟩ := exec_handOver_spurious fun sends => notTx (State.canSend_iff.1 sends).1
    obtain ⟨slawNack, txdAckLast, txdNack⟩ := exec_transmitEnd_spurious notTx
    exact ⟨slawAck, slawNack, txdAckMore, txdAckLast, txdNack⟩
  · refine exec_handOver_spurious fun sends => ?_
    obtain ⟨-, someLeft, notNull⟩ := State.canSend_iff.1 sends
    exact noByte.elim someLeft notNull
  · obtain ⟨rxdAck, rxdNack⟩ := exec_store_spurious fun stores => notRx (State.canStore_iff.1 stores).1
    obtain ⟨slarAck, slarNack⟩ := exec_readAddress_spurious notRx
    exact ⟨slarAck, slarNack, rxdAck, rxdNack⟩
  · refine exec_store_spurious fun stores => ?_
    obtain ⟨-, someLeft, notNull⟩ := State.canStore_iff.1 stores
    exact noRoom.elim someLeft notNull

/-- Settles O44: each arm is `armUnlisted` of its code, whose value as the spec writes it is computed. -/
theorem unlistedCodesFault : Obligations.UnlistedCodesFault := by
  unfold Obligations.UnlistedCodesFault
  intro s
  refine ⟨?_, ?_, ?_, ?_, ?_, ?_, ?_, ?_, ?_, ?_, ?_, ?_, ?_, ?_⟩ <;> exact armUnlisted_of_value (by decide)

end Sys2Proof.Machine
end

section
/-! PROOFS. The asynchronous entry points (R185, R186, R210, R211): one shape for both directions, by the state that an
accepted call leaves. -/

namespace Sys2Proof.Machine

/-- What `MasterSendAsync` and `MasterReceiveAsync` share: the checks at the port, the calls that are ignored, the checks of
the buffer. -/
def asyncEntry (buf : Ptr) (len : Len) (addr : Byte) (accepted s : State) : Out :=
  match entryRefusal addr s with
  | some r => .refused r
  | none =>
    if s.busy || decide (len = 0#16) then .next s
    else
      match bufferRefusal buf len with
      | some r => .refused r
      | none => .next accepted

theorem exec_masterSendAsync (buf : Ptr) (len : Len) (addr : Byte) (rep : Bool) (s : State) :
    exec (.masterSendAsync buf len addr rep) s =
      asyncEntry buf len addr (acceptSend buf len (addr7 addr) rep s) s := rfl

theorem exec_masterReceiveAsync (buf : Ptr) (len : Len) (addr : Byte) (rep : Bool) (s : State) :
    exec (.masterReceiveAsync buf len addr rep) s =
      asyncEntry buf len addr (acceptReceive buf len (addr7 addr) rep s) s := rfl

theorem EntryAllowed.refusal_none {addr : Byte} {s : State} (allowed : EntryAllowed addr s) :
    entryRefusal addr s = none := by
  obtain ⟨en, master, range⟩ := allowed
  exact entryRefusal_none.2 ⟨en, master, sevenBit_iff.2 range⟩

/-- R186, R211: while BUSY or with length 0 nothing changes, whatever the buffer. -/
theorem asyncEntry_ignored {buf : Ptr} {len : Len} {addr : Byte} {accepted s : State} (allowed : EntryAllowed addr s)
    (ignored : s.inst.state ≠ .ready ∨ len = 0#16) : asyncEntry buf len addr accepted s = .next s := by
  have ignores : (s.busy || decide (len = 0#16)) = true := by
    simpa [State.busy] using ignored
  simp [asyncEntry, allowed.refusal_none, ignores]

/-- R185, R210: on a READY instance with a length above 0, a buffer that fits is accepted. -/
theorem asyncEntry_accepted {buf : Ptr} {len : Len} {addr : Byte} {accepted s : State} (allowed : EntryAllowed addr s)
    (ready : s.inst.state = .ready) (someBytes : len ≠ 0#16) (fits : BufferFits buf len) :
    asyncEntry buf len addr accepted s = .next accepted := by
  have goesOn : (s.busy || decide (len = 0#16)) = false := by
    simp [State.busy, ready, someBytes]
  simp [asyncEntry, allowed.refusal_none, goesOn, bufferFits_iff.1 fits]

/-- Settles O31: both entry points are `asyncEntry`, which ignores the call or accepts it; the states that the statement
writes out are `acceptSend` and `acceptReceive`, which leave `seq` closed. -/
theorem asyncEntryPoints : Obligations.AsyncEntryPoints := by
  unfold Obligations.AsyncEntryPoints
  intro s buf len a rep allowed _ fits
  rw [exec_masterSendAsync, exec_masterReceiveAsync]
  refine ⟨fun ignored => ⟨asyncEntry_ignored allowed ignored, asyncEntry_ignored allowed ignored⟩,
    fun ready someBytes => ⟨.closed, ?_⟩⟩
  exact ⟨asyncEntry_accepted allowed ready someBytes fits, asyncEntry_accepted allowed ready someBytes fits⟩

end Sys2Proof.Machine
end

section
/-! PROOFS. The master transmit machine's arms (43_master_transmit_fsm.md): the byte handed over (R187, R189) and the
endings (R188, R191, R192). -/

namespace Sys2Proof.Machine

/-! The byte handed over. -/

/-- R187, R189: the first byte and the next ones are handed over alike. -/
theorem exec_handOver {i : Instr} (s : State) (arm : i = .stSlawAck ∨ i = .stTxdAckMore) : exec i s = handOver s := by
  rcases arm with rfl | rfl <;> rfl

/-- Settles O38: both arms are `handOver`, whose guard holds by `State.canSend_iff`. -/
theorem handOverArms : Obligations.HandOverArms := by
  unfold Obligations.HandOverArms
  intro s i arm tx someLeft notNull int
  rw [exec_handOver s arm]
  exact handOver_of_ready (State.canSend_iff.2 ⟨tx, someLeft, notNull⟩) int

/-! The endings of a transmit, while BUSY_TX. -/

/-- R188: after an address NACK the STOP is unconditional. -/
theorem exec_stSlawNack {s : State} (tx : s.inst.state = .busyTx) :
    exec .stSlawNack s = notify .txCmplt (closeSendOp (cmdStop s)) := if_pos tx

/-- The end after a data byte: STOP unless a repeated start was asked for. -/
theorem endTransmit_unless_rep (s : State) :
    endTransmit (!s.inst.rep) s = notify .txCmplt (if s.inst.rep then closeSendOp s else closeSendOp (cmdStop s)) := by
  unfold endTransmit
  cases s.inst.rep <;> rfl

/-- R192: a data byte not acknowledged, whatever the length was. -/
theorem exec_stTxdNack {s : State} (tx : s.inst.state = .busyTx) :
    exec .stTxdNack s = notify .txCmplt (if s.inst.rep then closeSendOp s else closeSendOp (cmdStop s)) :=
  (if_pos tx).trans (endTransmit_unless_rep s)

/-- R191: the last data byte acknowledged. -/
theorem exec_stTxdAckLast {s : State} (tx : s.inst.state = .busyTx) (noneLeft : s.inst.txLen = 0#16) :
    exec .stTxdAckLast s = notify .txCmplt (if s.inst.rep then closeSendOp s else closeSendOp (cmdStop s)) := by
  have ends : exec .stTxdAckLast s = endTransmit (!s.inst.rep) s := if_pos (by simp [tx, noneLeft])
  rw [ends, endTransmit_unless_rep]

theorem QuietCallback.congr {s t : State} (quiet : QuietCallback s) (same : t.callbacks = s.callbacks) :
    QuietCallback t :=
  (State.nextCallback_congr same).trans quiet

theorem notify_delivered {ev : Event} {s : State} (quiet : QuietCallback s) :
    notify ev s = .next (delivered ev s) := notify_quiet quiet

/-- Settles O39: each arm is `notify` after the close, with or without the STOP before it; neither touches the callbacks,
so a quiet one stays quiet. -/
theorem transmitEndings : Obligations.TransmitEndings := by
  unfold Obligations.TransmitEndings
  intro s tx stopped held
  have slawNack : exec .stSlawNack s = notify .txCmplt stopped := exec_stSlawNack tx
  have txdNack : exec .stTxdNack s = notify .txCmplt (if s.inst.rep then held else stopped) := exec_stTxdNack tx
  have txdAckLast (noneLeft : s.inst.txLen = 0#16) :
      exec .stTxdAckLast s = notify .txCmplt (if s.inst.rep then held else stopped) := exec_stTxdAckLast tx noneLeft
  refine ⟨slawNack, txdNack, txdAckLast, fun quiet => ?_⟩
  have stoppedQuiet : QuietCallback stopped := quiet.congr rfl
  have endQuiet : QuietCallback (if s.inst.rep then held else stopped) := by
    split
    · exact quiet.congr rfl
    · exact stoppedQuiet
  refine ⟨?_, ?_, fun noneLeft => ?_⟩
  · rw [slawNack, notify_delivered stoppedQuiet]
  · rw [txdNack, notify_delivered endQuiet]
  · rw [txdAckLast noneLeft, notify_delivered endQuiet]

end Sys2Proof.Machine
end

section
/-! PROOFS. The master receive machine's arms (44_master_receive_fsm.md): the arms that go on (R212, R214) and the endings
(R213, R215). -/

namespace Sys2Proof.Machine

/-! The byte that two of the arms store. -/

/-- R60, R214, R215: storing a byte at a buffer pointer changes that byte of memory alone. -/
theorem Memory.read_write_at {m : Memory} (wf : m.wf = true) (p : Ptr) (v : Byte) :
    (m.write p.toNat v).read p.toNat = v ∧ ∀ k : Nat, k ≠ p.toNat → (m.write p.toNat v).read k = m.read k := by
  refine ⟨?_, fun k other => ?_⟩
  · rw [read_write wf, if_pos rfl]
  · rw [read_write wf, if_neg other]

/-! The arms that go on. -/

/-- R212: the acknowledge is armed by the length, while BUSY_RX. -/
theorem exec_stSlarAck {s : State} (rx : s.inst.state = .busyRx) :
    exec .stSlarAck s = .next (cmdArm (ackFor s.inst.rxLen) s) := if_pos rx

/-- R214: under the guard, the byte stored and the acknowledge armed by the decremented length. -/
theorem exec_stRxdAck {s : State} (stores : s.canStore = true) :
    exec .stRxdAck s =
      .next (cmdArm (ackFor (s.inst.rxLen - 1#16)) (s.storeAt s.inst.pRx s.dr).advanceRx) := if_pos stores

/-- R169, R214: the arm goes on under its guard alone, and then memory has the byte. -/
theorem exec_stRxdAck_mem {s t : State} (goesOn : exec .stRxdAck s = .next t) :
    t.mem = s.mem.write s.inst.pRx.toNat s.dr := by
  by_cases stores : s.canStore = true
  · rw [exec_stRxdAck stores] at goesOn
    cases goesOn
    rfl
  · rw [(exec_store_spurious stores).1] at goesOn
    cases goesOn

/-- Settles O40: each arm by its equation, the guard of the second by `State.canStore_iff`; the memory it leaves is one
write at `pRx`. -/
theorem receiveArms : Obligations.ReceiveArms := by
  unfold Obligations.ReceiveArms
  intro s rx
  refine ⟨exec_stSlarAck rx, fun someLeft notNull => ?_, fun wf t goesOn => ?_⟩
  · exact exec_stRxdAck (State.canStore_iff.2 ⟨rx, someLeft, notNull⟩)
  · rw [exec_stRxdAck_mem goesOn]
    exact Memory.read_write_at wf s.inst.pRx s.dr

/-! The endings of a receive. -/

/-- R213: after an address NACK the STOP is unconditional. -/
theorem exec_stSlarNack {s : State} (rx : s.inst.state = .busyRx) :
    exec .stSlarNack s = notify .rxCmplt (closeReceiveOp (cmdStop s)) := if_pos rx

/-- The end after a data byte: STOP unless a repeated start was asked for. -/
theorem endReceive_unless_rep (s : State) :
    endReceive (!s.inst.rep) s =
      notify .rxCmplt (if s.inst.rep then closeReceiveOp s else closeReceiveOp (cmdStop s)) := by
  unfold endReceive
  cases s.inst.rep <;> rfl

/-- R215: under the guard, the byte stored and the receive ended. -/
theorem exec_stRxdNack {s : State} (stores : s.canStore = true) :
    exec .stRxdNack s =
      notify .rxCmplt
        (if s.inst.rep then closeReceiveOp (s.storeAt s.inst.pRx s.dr)
          else closeReceiveOp (cmdStop (s.storeAt s.inst.pRx s.dr))) :=
  (if_pos stores).trans (endReceive_unless_rep (s.storeAt s.inst.pRx s.dr))

/-- Settles O41: each arm is `notify` after the close, with or without the STOP before it; none of it touches the
callbacks, so a quiet one stays quiet. -/
theorem receiveEndings : Obligations.ReceiveEndings := by
  unfold Obligations.ReceiveEndings
  intro s rx stopped held stored
  have slarNack : exec .stSlarNack s = notify .rxCmplt (stopped s.mem) := exec_stSlarNack rx
  have rxdNack (someLeft : s.inst.rxLen ≠ 0#16) (notNull : s.inst.pRx ≠ 0#16) :
      exec .stRxdNack s = notify .rxCmplt (if s.inst.rep then held stored else stopped stored) :=
    exec_stRxdNack (State.canStore_iff.2 ⟨rx, someLeft, notNull⟩)
  refine ⟨slarNack, rxdNack, fun quiet => ⟨?_, fun someLeft notNull => ?_⟩,
    fun wf => Memory.read_write_at wf s.inst.pRx s.dr⟩
  · have stoppedQuiet : QuietCallback (stopped s.mem) := quiet.congr rfl
    rw [slarNack, notify_delivered stoppedQuiet]
  · have endQuiet : QuietCallback (if s.inst.rep then held stored else stopped stored) := by
      split <;> exact quiet.congr rfl
    rw [rxdNack someLeft notNull, notify_delivered endQuiet]

end Sys2Proof.Machine
end

section
/-! PROOFS. The slave event classifier's arms (45_slave_event_classifier.md): the arms that re-arm the controller
themselves (R237, R239, R241) and the data arms, which leave its release to the callback (R238, R240). -/

namespace Sys2Proof.Machine

/-! The arms that re-arm the controller themselves. -/

/-- R237: re-armed, no event. -/
theorem exec_ssSlawAck {s : State} (slave : s.inst.cfg.role = .slave) : exec .ssSlawAck s = .next (cmdRearm s) :=
  if_pos slave

/-- R239: re-armed, then the event. -/
theorem exec_ssStopRs {s : State} (slave : s.inst.cfg.role = .slave) :
    exec .ssStopRs s = notify .stop (cmdRearm s) := if_pos slave

/-- R241: re-armed, then the event. -/
theorem exec_ssTxdNack {s : State} (slave : s.inst.cfg.role = .slave) :
    exec .ssTxdNack s = notify .errAf (cmdRearm s) := if_pos slave

/-- Settles O45: each arm by its equation, where `rearmed` is `cmdRearm s`; re-arming does not touch the callbacks, so a
quiet one stays quiet. -/
theorem slaveRearmArms : Obligations.SlaveRearmArms := by
  unfold Obligations.SlaveRearmArms
  intro s slave rearmed
  have stopRs : exec .ssStopRs s = notify .stop rearmed := exec_ssStopRs slave
  have txdNack : exec .ssTxdNack s = notify .errAf rearmed := exec_ssTxdNack slave
  refine ⟨exec_ssSlawAck slave, stopRs, txdNack, fun quiet => ?_⟩
  have rearmedQuiet : QuietCallback rearmed := quiet.congr rfl
  exact ⟨stopRs.trans (notify_delivered rearmedQuiet), txdNack.trans (notify_delivered rearmedQuiet)⟩

/-! The data arms. -/

/-- R238: both data-received codes select one meaning. -/
theorem exec_dataReceived {i : Instr} {s : State} (code : i = .ssRxdAck ∨ i = .ssRxdNack)
    (slave : s.inst.cfg.role = .slave) : exec i s = deliverData .dataRcv s := by
  rcases code with rfl | rfl <;> exact if_pos slave

/-- R240: both data-requested codes select one meaning. -/
theorem exec_dataRequested {i : Instr} {s : State} (code : i = .ssSlarAck ∨ i = .ssTxdAck)
    (slave : s.inst.cfg.role = .slave) : exec i s = deliverData .dataReq s := by
  rcases code with rfl | rfl <;> exact if_pos slave

/-- R243: inside the callback of a data request, `SlaveSendByte` is `cmd_xmit`. -/
theorem execSlaveSendByte_of_delivering {b : Byte} {s : State} (en : s.cr.en = true)
    (request : s.delivering = some .dataReq) : execSlaveSendByte b s = cmdXmit b s := by
  simp [execSlaveSendByte, en, request]

/-- R244: inside the callback of received data, while `CR.INT = 1`, `SlaveReadByte` returns DR and releases the
controller. -/
theorem execSlaveReadByte_of_delivering {k : Bool} {s : State} (en : s.cr.en = true)
    (received : s.delivering = some .dataRcv) (int : s.cr.int = true) :
    execSlaveReadByte k s = .next ({ s with ret := some (.byte s.dr) }.command k false false s.cr.ie .listen) := by
  simp [execSlaveReadByte, en, received, int]

/-- R276: a delivery whose callback is one operation answers what that operation does inside it. -/
theorem notify_singleton {ev : Event} {op : CallbackOp} {s t : State} (only : s.nextCallback = [op])
    (answers : runCallbackOp op (beginDelivery ev s) = .next t) : notify ev s = .next (endDelivery t) := by
  simp [notify, only, runCallback, answers]

/-- R238, R240: a delivery that leaves the controller released ends its arm. -/
theorem deliverData_of_released {ev : Event} {s t : State} (answers : notify ev s = .next t)
    (released : t.cr.int = false) : deliverData ev s = .next t := by
  simp [deliverData, answers, released]

/-- R238, R244: the callback's one `SlaveReadByte` returns the byte and releases the controller. -/
theorem deliverData_slaveReadByte {k : Bool} {s : State} (en : s.cr.en = true) (int : s.cr.int = true)
    (only : s.nextCallback = [.slaveReadByte k]) :
    deliverData .dataRcv s = .next (delivered .dataRcv
      ({ s with ret := some (.byte s.dr) }.command k false false s.cr.ie .listen)) :=
  deliverData_of_released (notify_singleton only (execSlaveReadByte_of_delivering en rfl int)) rfl

/-- R240, R243: the callback's one `SlaveSendByte` loads the byte and releases the controller. -/
theorem deliverData_slaveSendByte {b : Byte} {s : State} (en : s.cr.en = true) (int : s.cr.int = true)
    (only : s.nextCallback = [.slaveSendByte b]) :
    deliverData .dataReq s = .next (delivered .dataReq
      ({ s with dr := b }.command s.cr.ea false false s.cr.ie (.tx b))) := by
  have sends : execSlaveSendByte b (beginDelivery .dataReq s) = cmdXmit b (beginDelivery .dataReq s) :=
    execSlaveSendByte_of_delivering en rfl
  exact deliverData_of_released (notify_singleton only (sends.trans (cmdXmit_of_int int))) rfl

/-- Settles O46: each arm is `deliverData` of its event, which is the delivery and the check after it; the callback's
one data operation passes that check. -/
theorem slaveDataArms : Obligations.SlaveDataArms := by
  unfold Obligations.SlaveDataArms
  refine ⟨fun s i ev slave arm => ?_, fun s i slave en int => ⟨fun code k only => ?_, fun code b only => ?_⟩⟩
  · rcases arm with ⟨code, rfl⟩ | ⟨code, rfl⟩
    · exact exec_dataReceived code slave
    · exact exec_dataRequested code slave
  · rw [exec_dataReceived code slave, deliverData_slaveReadByte en int only]
  · rw [exec_dataRequested code slave, deliverData_slaveSendByte en int only]

end Sys2Proof.Machine
end

section
/-! PROOFS. What each instruction puts on the event output, and that no run puts out arbitration-lost, overrun or timeout
(R281): in a run only the handler's arms emit, each the event its rule names. -/

namespace Sys2Proof

/-- The event that an instruction has put out when it completes (R105, R172, R188 to R192, R213, R215, R238 to R241). -/
def Instr.emits : Instr → List Event
  | .stBusError | .evErrBerr => [.errBerr]
  | .stSlawNack | .stTxdAckLast | .stTxdNack | .evTxCmplt => [.txCmplt]
  | .stSlarNack | .stRxdNack | .evRxCmplt => [.rxCmplt]
  | .ssRxdAck | .ssRxdNack | .evDataRcv => [.dataRcv]
  | .ssSlarAck | .ssTxdAck | .evDataReq => [.dataReq]
  | .ssStopRs | .evStop => [.stop]
  | .ssTxdNack | .evErrAf => [.errAf]
  | .evErrArlo => [.errArlo]
  | .evErrOvr => [.errOvr]
  | .evErrTimeout => [.errTimeout]
  | _ => []

/-- R166, R281: no arm that a status code selects puts out one of the three events. -/
theorem armOf_emits_raised (bytesRemain : Bool) (c : Code) :
    ∀ ev ∈ (armOf bytesRemain c).emits, ev.unraised = false := by
  revert bytesRemain c
  decide

/-! The decoders of the two ports that a step reads give no instruction that emits. -/

/-- What a decoding gives, if anything, puts out no event. -/
def DecodesSilent (d : Decoded) : Prop := ∀ i rest, d = .ok (i, rest) → i.emits = []

theorem decodesSilent_error (e : DecodeError) : DecodesSilent (.error e) := nofun

theorem decodesSilent_ok {i : Instr} (rest : List Byte) (silent : i.emits = []) : DecodesSilent (.ok (i, rest)) := by
  rintro _ _ ⟨⟩
  exact silent

theorem decodeInit_silent (bytes : List Byte) : DecodesSilent (decodeInit bytes) := by
  unfold decodeInit
  split
  · split_ifs
    · split
      · exact decodesSilent_ok _ rfl
      · exact decodesSilent_ok _ rfl
      · exact decodesSilent_error _
    · exact decodesSilent_error _
  · exact decodesSilent_error _

theorem decodeAddressTx_silent (bytes : List Byte) : DecodesSilent (decodeAddressTx bytes) := by
  unfold decodeAddressTx
  split
  · split_ifs
    · split
      · exact decodesSilent_ok _ rfl
      · exact decodesSilent_ok _ rfl
      · exact decodesSilent_error _
    · exact decodesSilent_error _
  · exact decodesSilent_error _

theorem decodeByte_silent {mk : Byte → Instr} (silent : ∀ b, (mk b).emits = []) (bytes : List Byte) :
    DecodesSilent (decodeByte mk bytes) := by
  cases bytes with
  | nil => exact decodesSilent_error _
  | cons b rest => exact decodesSilent_ok rest (silent b)

theorem decodeAck_silent {mk : Bool → Instr} (silent : ∀ k, (mk k).emits = []) (bytes : List Byte) :
    DecodesSilent (decodeAck mk bytes) := by
  unfold decodeAck
  split
  · split
    · exact decodesSilent_ok _ (silent _)
    · exact decodesSilent_error _
  · exact decodesSilent_error _

theorem decodeTransfer_silent {mk : Ptr → Len → Byte → Bool → Instr}
    (silent : ∀ buf len a rep, (mk buf len a rep).emits = []) (bytes : List Byte) :
    DecodesSilent (decodeTransfer mk bytes) := by
  unfold decodeTransfer
  split
  · split_ifs
    · split
      · exact decodesSilent_ok _ (silent _ _ _ _)
      · exact decodesSilent_error _
    · exact decodesSilent_error _
  · exact decodesSilent_error _

/-- R107: no host command puts out an event. -/
theorem decodeHost_silent (bytes : List Byte) : DecodesSilent (decodeHost bytes) := by
  unfold decodeHost
  split
  · exact decodesSilent_error _
  · split
    · exact decodeInit_silent _
    · exact decodesSilent_ok _ rfl
    · exact decodeAddressTx_silent _
    · exact decodeByte_silent (fun _ => rfl) _
    · exact decodeAck_silent (fun _ => rfl) _
    · exact decodesSilent_ok _ rfl
    · exact decodeTransfer_silent (fun _ _ _ _ => rfl) _
    · exact decodeTransfer_silent (fun _ _ _ _ => rfl) _
    · exact decodeTransfer_silent (fun _ _ _ _ => rfl) _
    · exact decodeTransfer_silent (fun _ _ _ _ => rfl) _
    · exact decodesSilent_ok _ rfl
    · exact decodesSilent_ok _ rfl
    · exact decodeByte_silent (fun _ => rfl) _
    · exact decodeAck_silent (fun _ => rfl) _
    · exact decodesSilent_ok _ rfl
    · exact decodesSilent_ok _ rfl
    · exact decodesSilent_error _

theorem decodeRelease_silent (ea ie : Bool) (bytes : List Byte) : DecodesSilent (decodeRelease ea ie bytes) := by
  unfold decodeRelease
  split
  · split
    · exact decodesSilent_ok _ rfl
    · exact decodesSilent_error _
    · exact decodesSilent_ok _ rfl
    · exact decodesSilent_ok _ rfl
    · exact decodesSilent_error _
  · exact decodesSilent_error _

/-- R99 to R104: no control word puts out an event. -/
theorem decodeCr_silent (bytes : List Byte) : DecodesSilent (decodeCr bytes) := by
  cases bytes with
  | nil => exact decodesSilent_error _
  | cons w rest =>
    simp only [decodeCr]
    split_ifs
    · exact decodesSilent_ok rest rfl
    · exact decodesSilent_ok rest rfl
    · exact decodeRelease_silent _ _ rest
    · exact decodesSilent_error _

end Sys2Proof

namespace Sys2Proof.Machine

/-- A next state, if `o` is one, has the events of `s` and then `evs`. -/
def Emits (o : Out) (s : State) (evs : List Event) : Prop := ∀ t, o = .next t → t.events = s.events ++ evs

theorem emits_fault (r : Fault) (s : State) (evs : List Event) : Emits (.fault r) s evs := by
  intro t faults
  simp at faults

theorem emits_refused (r : Refusal) (s : State) (evs : List Event) : Emits (.refused r) s evs := by
  intro t refuses
  simp at refuses

theorem emits_next {s t : State} {evs : List Event} (events : t.events = s.events ++ evs) : Emits (.next t) s evs := by
  rintro _ ⟨⟩
  exact events

theorem emits_none_next {s t : State} (same : t.events = s.events) : Emits (.next t) s [] :=
  emits_next (by rw [same, List.append_nil])

theorem Emits.congr {o : Out} {s u : State} {evs : List Event} (emits : Emits o s evs) (same : s.events = u.events) :
    Emits o u evs := by
  intro t goesOn
  rw [emits t goesOn, same]

/-- Of two in a row, the second puts out what it does on the state that the first one left. -/
theorem Emits.andThen {o : Out} {k : State → Out} {s : State} {evs evs' : List Event} (first : Emits o s evs)
    (second : ∀ u, Emits (k u) u evs') : Emits (andThen o k) s (evs ++ evs') := by
  intro t goesOn
  obtain ⟨u, hu, ht⟩ := andThen_eq_next.1 goesOn
  rw [second u t ht, first u hu, List.append_assoc]

/-- What follows only sets fields other than the events. -/
theorem Emits.andThen_next {o : Out} {f : State → State} {s : State} {evs : List Event} (first : Emits o s evs)
    (same : ∀ u, (f u).events = u.events) : Emits (Machine.andThen o fun u => .next (f u)) s evs := by
  simpa using first.andThen fun u => emits_none_next (same u)

/-! Commands, closes and entry points put out no event. -/

theorem writeData_emits (b : Byte) (s : State) : Emits (writeData b s) s [] := by
  unfold writeData
  split_ifs
  · exact emits_none_next rfl
  · exact emits_fault _ _ _

theorem cmdXmit_emits (b : Byte) (s : State) : Emits (cmdXmit b s) s [] := by
  intro t goesOn
  obtain ⟨-, rfl⟩ := cmdXmit_cases goesOn
  simp

theorem primitive_emits {operandOk inOrder : Bool} {act : State → Out} {s : State} (acts : Emits (act s) s []) :
    Emits (primitive operandOk inOrder act s) s [] := by
  intro t goesOn
  obtain ⟨-, -, -, answers⟩ := primitive_cases goesOn
  exact acts t answers

theorem execStartCondition_emits (s : State) : Emits (execStartCondition s) s [] :=
  primitive_emits (emits_none_next rfl)

theorem execAddressTx_emits (a : Byte) (d : Dir) (s : State) : Emits (execAddressTx a d s) s [] :=
  primitive_emits ((cmdXmit_emits _ s).andThen_next fun _ => rfl)

theorem execByteWrite_emits (b : Byte) (s : State) : Emits (execByteWrite b s) s [] :=
  primitive_emits ((cmdXmit_emits b s).andThen_next fun _ => rfl)

theorem execByteReadAckNack_emits (k : Bool) (s : State) : Emits (execByteReadAckNack k s) s [] :=
  primitive_emits (emits_none_next rfl)

theorem execStopCondition_emits (s : State) : Emits (execStopCondition s) s [] :=
  primitive_emits (emits_none_next rfl)

theorem execInit_emits (speed : BitVec 32) (a : Byte) (r : Role) (s : State) : Emits (execInit speed a r s) s [] := by
  intro t goesOn
  obtain ⟨-, -, -, rfl⟩ := execInit_cases goesOn
  cases r <;> simp [State.enabled, State.configured]

theorem execMasterSendAsync_emits (buf : Ptr) (len : Len) (a : Byte) (rep : Bool) (s : State) :
    Emits (execMasterSendAsync buf len a rep s) s [] := by
  intro t goesOn
  obtain ⟨-, ⟨-, rfl⟩ | ⟨-, -, -, rfl⟩⟩ := execMasterSendAsync_cases goesOn
  · simp
  · simp [acceptSend]

theorem execMasterReceiveAsync_emits (buf : Ptr) (len : Len) (a : Byte) (rep : Bool) (s : State) :
    Emits (execMasterReceiveAsync buf len a rep s) s [] := by
  intro t goesOn
  obtain ⟨-, ⟨-, rfl⟩ | ⟨-, -, -, rfl⟩⟩ := execMasterReceiveAsync_cases goesOn
  · simp
  · simp [acceptReceive]

theorem execCloseSend_emits (s : State) : Emits (execCloseSend s) s [] := by
  intro t goesOn
  obtain ⟨-, rfl⟩ := execCloseSend_cases goesOn
  simp

theorem execCloseReceive_emits (s : State) : Emits (execCloseReceive s) s [] := by
  intro t goesOn
  obtain ⟨-, rfl⟩ := execCloseReceive_cases goesOn
  simp

theorem execSlaveSendByte_emits (b : Byte) (s : State) : Emits (execSlaveSendByte b s) s [] := by
  intro t goesOn
  obtain ⟨-, -, sends⟩ := execSlaveSendByte_cases goesOn
  exact cmdXmit_emits b s t sends

theorem execSlaveReadByte_emits (k : Bool) (s : State) : Emits (execSlaveReadByte k s) s [] := by
  intro t goesOn
  obtain ⟨-, -, -, rfl⟩ := execSlaveReadByte_cases goesOn
  simp

theorem execMasterSend_emits (buf : Ptr) (len : Len) (a : Byte) (rep : Bool) (s : State) :
    Emits (execMasterSend buf len a rep s) s [] := by
  unfold execMasterSend
  split
  · exact emits_refused _ _ _
  · exact emits_none_next (by simp)

theorem execMasterReceive_emits (buf : Ptr) (len : Len) (a : Byte) (rep : Bool) (s : State) :
    Emits (execMasterReceive buf len a rep s) s [] := by
  unfold execMasterReceive
  split
  · exact emits_refused _ _ _
  · exact emits_none_next (by simp)

/-! A delivery puts out its event and, whatever the callback does, no other. -/

theorem runCallbackOp_emits (op : CallbackOp) (s : State) : Emits (runCallbackOp op s) s [] := by
  cases op with
  | masterSendAsync buf len a rep => exact execMasterSendAsync_emits buf len a rep s
  | masterReceiveAsync buf len a rep => exact execMasterReceiveAsync_emits buf len a rep s
  | closeSend => exact execCloseSend_emits s
  | closeReceive => exact execCloseReceive_emits s
  | slaveSendByte b => exact execSlaveSendByte_emits b s
  | slaveReadByte k => exact execSlaveReadByte_emits k s
  | init speed a r => exact execInit_emits speed a r s
  | blocking => exact emits_refused _ _ _
  | store p b => exact emits_none_next rfl
  | setGie b => exact emits_none_next rfl
  | noReturn => exact emits_fault _ _ _

theorem runCallback_emits (ops : List CallbackOp) (s : State) : Emits (runCallback ops s) s [] := by
  induction ops generalizing s with
  | nil => exact emits_none_next rfl
  | cons op rest ih => exact (runCallbackOp_emits op s).andThen ih

theorem notify_emits (ev : Event) (s : State) : Emits (notify ev s) s [ev] := by
  intro t goesOn
  obtain ⟨u, runs, rfl⟩ := notify_cases goesOn
  simpa using runCallback_emits _ _ u runs

/-- An arm's delivery after what it did first to fields other than the events. -/
theorem notify_emits_after (ev : Event) {s u : State} (same : u.events = s.events) : Emits (notify ev u) s [ev] :=
  (notify_emits ev u).congr same

/-! The handler's arms. -/

theorem armStart_emits (s : State) : Emits (armStart s) s [] := by
  cases state : s.inst.state with
  | ready => rw [armStart_of_ready state]; exact emits_fault _ _ _
  | busyTx => rw [armStart_of_busyTx state]; exact cmdXmit_emits _ s
  | busyRx => rw [armStart_of_busyRx state]; exact cmdXmit_emits _ s

theorem handOver_emits (s : State) : Emits (handOver s) s [] := by
  intro t goesOn
  obtain ⟨-, -, rfl⟩ := handOver_cases goesOn
  simp

@[simp] theorem closeBusySide_events (s : State) : (closeBusySide s).events = s.events := by
  unfold closeBusySide
  split <;> rfl

@[simp] theorem busErrorState_events (s : State) : (busErrorState s).events = s.events := by
  by_cases closes : s.params.busErrorCloses = true
  · simp [busErrorState_of_closes closes]
  · simp [busErrorState_of_not_closes closes]

/-- A guarded arm (R169) emits what it emits under its guard. -/
theorem guarded_emits {guard : Prop} [Decidable guard] {o : Out} {s : State} {evs : List Event}
    (emits : Emits o s evs) : Emits (if guard then o else .fault .spuriousStatus) s evs := by
  split
  · exact emits
  · exact emits_fault _ _ _

theorem endTransmit_emits (stop : Bool) (s : State) : Emits (endTransmit stop s) s [.txCmplt] :=
  notify_emits_after .txCmplt (by cases stop <;> rfl)

theorem endReceive_emits (stop : Bool) (s : State) : Emits (endReceive stop s) s [.rxCmplt] :=
  notify_emits_after .rxCmplt (by cases stop <;> rfl)

theorem deliverData_emits (ev : Event) (s : State) : Emits (deliverData ev s) s [ev] := by
  intro t goesOn
  obtain ⟨delivers, -⟩ := deliverData_cases goesOn
  exact notify_emits ev s t delivers

/-- What an instruction puts out, whatever the state and the callback: the events `Instr.emits` lists. -/
theorem exec_emits (i : Instr) (s : State) : Emits (exec i s) s i.emits := by
  cases i with
  | stBusError => exact notify_emits_after .errBerr (busErrorState_events s)
  | stStart | stRstart => exact armStart_emits s
  | stSlawAck | stTxdAckMore => exact handOver_emits s
  | stSlawNack => exact guarded_emits (endTransmit_emits true s)
  | stTxdAckLast | stTxdNack => exact guarded_emits (endTransmit_emits _ s)
  | stSlarAck => exact guarded_emits (emits_none_next rfl)
  | stSlarNack => exact guarded_emits (endReceive_emits true s)
  | stRxdAck => exact guarded_emits (emits_none_next rfl)
  | stRxdNack => exact guarded_emits ((endReceive_emits _ _).congr rfl)
  | ssSlawAck => exact guarded_emits (emits_none_next rfl)
  | ssRxdAck | ssRxdNack => exact guarded_emits (deliverData_emits .dataRcv s)
  | ssSlarAck | ssTxdAck => exact guarded_emits (deliverData_emits .dataReq s)
  | ssStopRs => exact guarded_emits (notify_emits_after .stop rfl)
  | ssTxdNack => exact guarded_emits (notify_emits_after .errAf rfl)
  | stArbLost | ssArbSlaw | ssGcall | ssArbGcall | ssGcRxdAck | ssGcRxdNack | ssArbSlar | ssTxlastAck | unassignedD0
  | unassignedD8 | unassignedE0 | unassignedE8 | unassignedF0 | stNoInfo => exact emits_fault _ _ _
  | init speed a r => exact execInit_emits speed a r s
  | startCondition => exact execStartCondition_emits s
  | addressTx a d => exact execAddressTx_emits a d s
  | byteWrite b => exact execByteWrite_emits b s
  | byteReadAckNack k => exact execByteReadAckNack_emits k s
  | stopCondition => exact execStopCondition_emits s
  | masterSend buf len a rep => exact execMasterSend_emits buf len a rep s
  | masterReceive buf len a rep => exact execMasterReceive_emits buf len a rep s
  | masterSendAsync buf len a rep => exact execMasterSendAsync_emits buf len a rep s
  | masterReceiveAsync buf len a rep => exact execMasterReceiveAsync_emits buf len a rep s
  | closeSend => exact execCloseSend_emits s
  | closeReceive => exact execCloseReceive_emits s
  | slaveSendByte b => exact execSlaveSendByte_emits b s
  | slaveReadByte k => exact execSlaveReadByte_emits k s
  | unknownE | unknownF => exact emits_refused _ _ _
  | cmdStart _ _ | cmdArm _ _ | cmdStop _ _ | cmdRearm _ _ => exact emits_none_next rfl
  | cmdXmit ea ie b => exact (writeData_emits b s).andThen_next fun _ => rfl
  | addrByte a d => exact cmdXmit_emits _ s
  | evTxCmplt | evRxCmplt | evStop | evErrArlo | evErrBerr | evErrAf | evErrOvr | evErrTimeout | evDataReq
  | evDataRcv => exact notify_emits _ s
  | errStart | errAddrNack => exact emits_none_next rfl

/-! HOST's and ENV's moves put out no event. -/

theorem finishTransaction_events (rep : Bool) (s : State) : (finishTransaction rep s).events = s.events := by
  cases rep <;> rfl

theorem sendNext_emits (buf : Ptr) (len : Len) (rep : Bool) (s : State) : Emits (sendNext buf len rep s) s [] := by
  intro t goesOn
  obtain ⟨-, rfl⟩ | ⟨-, -, rfl⟩ := sendNext_cases goesOn
  · simp [finishTransaction_events]
  · simp

theorem receiveNext_emits (buf : Ptr) (len : Len) (rep : Bool) (s : State) :
    Emits (receiveNext buf len rep s) s [] := by
  rw [receiveNext_next]
  refine emits_none_next ?_
  split
  · exact finishTransaction_events rep s
  · rfl

/-- R151, R152: a transaction goes on after the code it waits for, and fails after any other. -/
theorem expected_emits {seen : Prop} [Decidable seen] {o : Out} {e : ErrorCode} {s u : State}
    (goesOn : Emits o s []) (same : u.events = s.events) :
    Emits (if seen then o else failTransaction e u) s [] := by
  split
  · exact goesOn
  · exact emits_none_next same

theorem hostResume_emits (s : State) : Emits (hostResume s) s [] := by
  unfold hostResume
  cases s.host with
  | idle | startWait | addressWait _ | writeWait | readWait => exact emits_none_next rfl
  | sendStart _ _ _ _ | receiveStart _ _ _ _ =>
    exact expected_emits ((cmdXmit_emits _ s).andThen_next fun _ => rfl) rfl
  | sendAddress buf len rep => exact expected_emits (sendNext_emits buf len rep s) rfl
  | sendByte buf len rep => exact sendNext_emits buf len rep s
  | receiveAddress buf len rep => exact expected_emits (receiveNext_emits buf len rep s) rfl
  | receiveByte buf len rep => exact (receiveNext_emits _ _ rep _).congr rfl

theorem issueWord_emits (bytes : List Byte) (s : State) : Emits (issueWord bytes s) s [] := by
  unfold issueWord
  split
  next i rest decoded => exact decodeHost_silent bytes i rest decoded ▸ exec_emits i s
  · exact emits_refused _ _ _
  · exact emits_refused _ _ _

theorem portWordStep_emits (bytes : List Byte) (s : State) : Emits (portWordStep bytes s) s [] := by
  unfold portWordStep
  split
  next i rest decoded => exact decodeCr_silent bytes i rest decoded ▸ exec_emits i s
  · exact emits_refused _ _ _

theorem waitReady_emits (rest : List AppMove) (s : State) : Emits (waitReady rest s) s [] := by
  unfold waitReady
  split_ifs <;> exact emits_none_next rfl

theorem hostTurn_emits (s : State) : Emits (hostTurn s) s [] := by
  unfold hostTurn
  split
  · split
    · exact emits_none_next rfl
    · exact (issueWord_emits _ _).congr rfl
    · exact emits_none_next rfl
    · exact emits_none_next rfl
    · exact waitReady_emits _ s
  · split_ifs
    · exact hostResume_emits s
    · exact emits_none_next rfl

theorem State.txServed_events (s : State) (b : Byte) (ack : Bool) : (s.txServed b ack).events = s.events := by
  unfold txServed
  split <;> rfl

theorem State.rxServed_events (s : State) (d : Byte) : (s.rxServed d).events = s.events := by
  unfold rxServed
  split_ifs <;> rfl

theorem State.replied_events (s : State) (ack : Bool) (d : Byte) : (s.replied ack d).events = s.events := by
  unfold replied
  split_ifs
  · rfl
  · cases s.env.pend with
    | tx b => exact s.txServed_events b ack
    | rx => exact s.rxServed_events d
    | none | start | stop | listen => rfl

theorem State.slaveServed_events (s : State) (bus : SlaveBus) : (s.slaveServed bus).events = s.events := by
  cases bus <;> simp only [slaveServed] <;> split_ifs <;> rfl

theorem envStep_events (m : EnvMove) (s : State) : (envStep m s).events = s.events := by
  cases m with
  | reply ack d =>
    simp only [envStep]
    split_ifs
    · rfl
    · exact s.replied_events ack d
  | slave bus =>
    simp only [envStep]
    split_ifs
    · exact s.slaveServed_events bus
    · rfl
  | busError | arbLost | answer _ _ _ _ =>
    simp only [envStep]
    split_ifs <;> rfl

theorem envTurn_events (s : State) : (envTurn s).events = s.events := by
  unfold envTurn
  split
  · rfl
  · exact envStep_events _ _

theorem agentStep_emits (s : State) : Emits (agentStep s) s [] := by
  unfold agentStep
  split
  · exact (portWordStep_emits _ _).congr rfl
  · unfold agentMove
    split
    · exact emits_none_next (envTurn_events _)
    · exact (hostTurn_emits _).congr rfl
    · split_ifs
      · exact emits_none_next (envTurn_events s)
      · exact hostTurn_emits s

/-! A step, and a run. -/

theorem handlerStep_emits (s : State) : Emits (handlerStep s) s s.fetchArm.emits :=
  ((exec_emits s.fetchArm (enterHandler s)).congr rfl).andThen_next fun _ => rfl

/-- R272: a step that is not the reset input's puts out the events of the handler's arm if the handler runs, else none. -/
theorem step_emits {s : State} (noReset : ResetNotNext s) :
    Emits (step s) s (if s.interruptCondition then s.fetchArm.emits else []) := by
  have notReset : s.resetNext = none := noReset
  cases halted : s.halted with
  | true =>
    have noHandler : s.interruptCondition = false := by simp [State.interruptCondition, halted]
    simp only [step, notReset, halted, noHandler]
    exact emits_none_next rfl
  | false =>
    cases handler : s.interruptCondition with
    | true => simpa [step, notReset, halted, handler] using handlerStep_emits s
    | false => simpa [step, notReset, halted, handler] using agentStep_emits s

/-- R300: the reset input leaves no event. -/
theorem resetNext_events {s t : State} (reset : s.resetNext = some t) : t.events = [] := by
  unfold State.resetNext at reset
  split at reset
  · cases reset
    rfl
  · cases reset

/-- R281: the events hold none of the three that no rule emits. -/
def OnlyRaised (s : State) : Prop := ∀ ev ∈ s.events, ev.unraised = false

theorem OnlyRaised.step {s t : State} (raised : OnlyRaised s) (steps : step s = .next t) : OnlyRaised t := by
  unfold OnlyRaised
  cases reset : s.resetNext with
  | some u =>
    simp only [Machine.step, reset] at steps
    cases steps
    simp [resetNext_events reset]
  | none =>
    rw [step_emits reset t steps]
    refine List.forall_mem_append.2 ⟨raised, ?_⟩
    split
    · exact armOf_emits_raised _ _
    · exact List.forall_mem_nil _

/-- Settles O57: every step keeps `OnlyRaised`, since by `step_emits` it appends at most the events of the handler's arm,
none of which is one of the three. -/
theorem unraisedEventsNeverEmitted : Obligations.UnraisedEventsNeverEmitted := by
  unfold Obligations.UnraisedEventsNeverEmitted
  intro n s t runs raised
  exact run_keeps (P := OnlyRaised) (fun _ _ => OnlyRaised.step) raised runs

end Sys2Proof.Machine
end

section
/-! PROOFS. The encodings (30_encoding.md): decoding an encoded instruction gives it back, and a word that decodes is the
encoding of what it decodes to. -/

namespace Sys2Proof.Laws.RoundTrip

/-- The family `RoundTrip`, put together: every well-formed instruction is read back. -/
theorem every : ∀ i : Instr, Statement i
  | .stBusError => stBusError
  | .stStart => stStart
  | .stRstart => stRstart
  | .stSlawAck => stSlawAck
  | .stSlawNack => stSlawNack
  | .stTxdAckMore => stTxdAckMore
  | .stTxdAckLast => stTxdAckLast
  | .stTxdNack => stTxdNack
  | .stArbLost => stArbLost
  | .stSlarAck => stSlarAck
  | .stSlarNack => stSlarNack
  | .stRxdAck => stRxdAck
  | .stRxdNack => stRxdNack
  | .ssSlawAck => ssSlawAck
  | .ssArbSlaw => ssArbSlaw
  | .ssGcall => ssGcall
  | .ssArbGcall => ssArbGcall
  | .ssRxdAck => ssRxdAck
  | .ssRxdNack => ssRxdNack
  | .ssGcRxdAck => ssGcRxdAck
  | .ssGcRxdNack => ssGcRxdNack
  | .ssStopRs => ssStopRs
  | .ssSlarAck => ssSlarAck
  | .ssArbSlar => ssArbSlar
  | .ssTxdAck => ssTxdAck
  | .ssTxdNack => ssTxdNack
  | .ssTxlastAck => ssTxlastAck
  | .unassignedD0 => unassignedD0
  | .unassignedD8 => unassignedD8
  | .unassignedE0 => unassignedE0
  | .unassignedE8 => unassignedE8
  | .unassignedF0 => unassignedF0
  | .stNoInfo => stNoInfo
  | .init speed a r => init speed a r
  | .startCondition => startCondition
  | .addressTx a d => addressTx a d
  | .byteWrite b => byteWrite b
  | .byteReadAckNack k => byteReadAckNack k
  | .stopCondition => stopCondition
  | .masterSend buf len a rep => masterSend buf len a rep
  | .masterReceive buf len a rep => masterReceive buf len a rep
  | .masterSendAsync buf len a rep => masterSendAsync buf len a rep
  | .masterReceiveAsync buf len a rep => masterReceiveAsync buf len a rep
  | .closeSend => closeSend
  | .closeReceive => closeReceive
  | .slaveSendByte b => slaveSendByte b
  | .slaveReadByte k => slaveReadByte k
  | .unknownE => unknownE
  | .unknownF => unknownF
  | .cmdStart ea ie => cmdStart ea ie
  | .cmdXmit ea ie b => cmdXmit ea ie b
  | .cmdArm ack ie => cmdArm ack ie
  | .cmdStop ea ie => cmdStop ea ie
  | .cmdRearm ea ie => cmdRearm ea ie
  | .addrByte a d => addrByte a d
  | .evTxCmplt => evTxCmplt
  | .evRxCmplt => evRxCmplt
  | .evStop => evStop
  | .evErrArlo => evErrArlo
  | .evErrBerr => evErrBerr
  | .evErrAf => evErrAf
  | .evErrOvr => evErrOvr
  | .evErrTimeout => evErrTimeout
  | .evDataReq => evDataReq
  | .evDataRcv => evDataRcv
  | .errStart => errStart
  | .errAddrNack => errAddrNack

/-- Settles O1: the family `RoundTrip`, one lemma per constructor. -/
theorem decodeOfEncodeIsInstruction : Obligations.DecodeOfEncodeIsInstruction := by
  unfold Obligations.DecodeOfEncodeIsInstruction
  exact every

end Sys2Proof.Laws.RoundTrip

namespace Sys2Proof

/-! Operand bytes, read and written again, are the bytes they were read from. -/

theorem wordBytes_append (b1 b0 : Byte) : wordBytes (b1 ++ b0) = [b0, b1] := by
  have low : (b1 ++ b0).extractLsb' 0 8 = b0 := by ext i hi; simp; grind
  have high : (b1 ++ b0).extractLsb' 8 8 = b1 := by ext i hi; simp; grind
  rw [wordBytes, low, high]

theorem longBytes_append (b3 b2 b1 b0 : Byte) : longBytes (b3 ++ b2 ++ b1 ++ b0) = [b0, b1, b2, b3] := by
  have byte0 : (b3 ++ b2 ++ b1 ++ b0).extractLsb' 0 8 = b0 := by ext i hi; simp; grind
  have byte1 : (b3 ++ b2 ++ b1 ++ b0).extractLsb' 8 8 = b1 := by ext i hi; simp; grind
  have byte2 : (b3 ++ b2 ++ b1 ++ b0).extractLsb' 16 8 = b2 := by ext i hi; simp; grind
  have byte3 : (b3 ++ b2 ++ b1 ++ b0).extractLsb' 24 8 = b3 := by ext i hi; simp; grind
  rw [longBytes, byte0, byte1, byte2, byte3]

theorem eq_flagByte_of_flagOf {w : Byte} {b : Bool} (reads : flagOf w = some b) : w = flagByte b := by
  unfold flagOf at reads
  split_ifs at reads with zero one
  · cases reads; exact zero
  · cases reads; exact one

/-- R96: the address byte, read as address and direction and written again. -/
theorem addrByteOf_reads (w : Byte) :
    addrByteOf (w.extractLsb' 1 7) (if w.getLsbD 0 then .read else .write) = w := by
  revert w; decide

theorem eq_of_value {w : Byte} {n : Nat} (value : w.toNat = n) : w = BitVec.ofNat 8 n := by
  rw [← value, BitVec.ofNat_toNat, BitVec.setWidth_eq]

/-! What a decoder accepts is well formed and is its encoding. -/

/-- The instruction that a decoding of `bytes` on the port `f` gives, if it gives one, is well formed, and its encoding
stands on that port and is those bytes, up to the bytes left over. -/
def DecodesFaithfully (f : Format) (bytes : List Byte) (d : Decoded) : Prop :=
  ∀ i rest, d = .ok (i, rest) → i.wellFormed = true ∧ (encode i).format = f ∧ bytes = (encode i).bytes ++ rest

theorem decodesFaithfully_error (f : Format) (bytes : List Byte) (e : DecodeError) :
    DecodesFaithfully f bytes (.error e) := nofun

theorem decodesFaithfully_ok {f : Format} {bytes : List Byte} {i : Instr} {rest : List Byte}
    (wellFormed : i.wellFormed = true) (port : (encode i).format = f) (same : bytes = (encode i).bytes ++ rest) :
    DecodesFaithfully f bytes (.ok (i, rest)) := by
  rintro _ _ ⟨⟩
  exact ⟨wellFormed, port, same⟩

theorem decodeInit_faithful (bytes : List Byte) : DecodesFaithfully .hostcmd (0x0#8 :: bytes) (decodeInit bytes) := by
  unfold decodeInit
  split
  next s0 s1 s2 s3 a r rest =>
    split_ifs with range
    · split
      next role =>
        refine decodesFaithfully_ok range rfl ?_
        simp [encode, encodeHost, longBytes_append, roleByte, eq_flagByte_of_flagOf role, flagByte]
      next role =>
        refine decodesFaithfully_ok range rfl ?_
        simp [encode, encodeHost, longBytes_append, roleByte, eq_flagByte_of_flagOf role, flagByte]
      · exact decodesFaithfully_error _ _ _
    · exact decodesFaithfully_error _ _ _
  · exact decodesFaithfully_error _ _ _

theorem decodeAddressTx_faithful (bytes : List Byte) :
    DecodesFaithfully .hostcmd (0x2#8 :: bytes) (decodeAddressTx bytes) := by
  unfold decodeAddressTx
  split
  next a d rest =>
    split_ifs with range
    · split
      next dir =>
        refine decodesFaithfully_ok range rfl ?_
        simp [encode, encodeHost, dirByte, eq_flagByte_of_flagOf dir, flagByte]
      next dir =>
        refine decodesFaithfully_ok range rfl ?_
        simp [encode, encodeHost, dirByte, eq_flagByte_of_flagOf dir, flagByte]
      · exact decodesFaithfully_error _ _ _
    · exact decodesFaithfully_error _ _ _
  · exact decodesFaithfully_error _ _ _

theorem decodeByte_faithful {op : Byte} {mk : Byte → Instr} (wellFormed : ∀ b, (mk b).wellFormed = true)
    (encodes : ∀ b, encode (mk b) = encodeHost op [b]) (bytes : List Byte) :
    DecodesFaithfully .hostcmd (op :: bytes) (decodeByte mk bytes) := by
  cases bytes with
  | nil => exact decodesFaithfully_error _ _ _
  | cons b rest => exact decodesFaithfully_ok (wellFormed b) (by rw [encodes]; rfl) (by rw [encodes]; rfl)

theorem decodeAck_faithful {op : Byte} {mk : Bool → Instr} (wellFormed : ∀ k, (mk k).wellFormed = true)
    (encodes : ∀ k, encode (mk k) = encodeHost op [flagByte k]) (bytes : List Byte) :
    DecodesFaithfully .hostcmd (op :: bytes) (decodeAck mk bytes) := by
  unfold decodeAck
  split
  · split
    next k ack =>
      refine decodesFaithfully_ok (wellFormed k) (by rw [encodes]; rfl) ?_
      rw [encodes, eq_flagByte_of_flagOf ack]
      rfl
    · exact decodesFaithfully_error _ _ _
  · exact decodesFaithfully_error _ _ _

theorem decodeTransfer_faithful {op : Byte} {mk : Ptr → Len → Byte → Bool → Instr}
    (wellFormed : ∀ buf len a rep, (mk buf len a rep).wellFormed = sevenBit a)
    (encodes : ∀ buf len a rep, encode (mk buf len a rep) = encodeTransfer op buf len a rep) (bytes : List Byte) :
    DecodesFaithfully .hostcmd (op :: bytes) (decodeTransfer mk bytes) := by
  unfold decodeTransfer
  split
  next p0 p1 l0 l1 a r rest =>
    split_ifs with range
    · split
      next rep flag =>
        refine decodesFaithfully_ok ((wellFormed _ _ _ _).trans range) (by rw [encodes]; rfl) ?_
        simp [encodes, encodeTransfer, encodeHost, wordBytes_append, eq_flagByte_of_flagOf flag]
      · exact decodesFaithfully_error _ _ _
    · exact decodesFaithfully_error _ _ _
  · exact decodesFaithfully_error _ _ _

/-- R107: the sixteen opcodes of the host command port. -/
theorem decodeHost_faithful (bytes : List Byte) : DecodesFaithfully .hostcmd bytes (decodeHost bytes) := by
  unfold decodeHost
  split
  · exact decodesFaithfully_error _ _ _
  next op rest =>
    split
    next value => exact eq_of_value value ▸ decodeInit_faithful rest
    next value => exact decodesFaithfully_ok rfl rfl (by rw [eq_of_value value]; rfl)
    next value => exact eq_of_value value ▸ decodeAddressTx_faithful rest
    next value => exact eq_of_value value ▸ decodeByte_faithful (fun _ => rfl) (fun _ => rfl) rest
    next value => exact eq_of_value value ▸ decodeAck_faithful (fun _ => rfl) (fun _ => rfl) rest
    next value => exact decodesFaithfully_ok rfl rfl (by rw [eq_of_value value]; rfl)
    next value => exact eq_of_value value ▸ decodeTransfer_faithful (fun _ _ _ _ => rfl) (fun _ _ _ _ => rfl) rest
    next value => exact eq_of_value value ▸ decodeTransfer_faithful (fun _ _ _ _ => rfl) (fun _ _ _ _ => rfl) rest
    next value => exact eq_of_value value ▸ decodeTransfer_faithful (fun _ _ _ _ => rfl) (fun _ _ _ _ => rfl) rest
    next value => exact eq_of_value value ▸ decodeTransfer_faithful (fun _ _ _ _ => rfl) (fun _ _ _ _ => rfl) rest
    next value => exact decodesFaithfully_ok rfl rfl (by rw [eq_of_value value]; rfl)
    next value => exact decodesFaithfully_ok rfl rfl (by rw [eq_of_value value]; rfl)
    next value => exact eq_of_value value ▸ decodeByte_faithful (fun _ => rfl) (fun _ => rfl) rest
    next value => exact eq_of_value value ▸ decodeAck_faithful (fun _ => rfl) (fun _ => rfl) rest
    next value => exact decodesFaithfully_ok rfl rfl (by rw [eq_of_value value]; rfl)
    next value => exact decodesFaithfully_ok rfl rfl (by rw [eq_of_value value]; rfl)
    · exact decodesFaithfully_error _ _ _

theorem decodeRelease_faithful (ea ie : Bool) (bytes : List Byte) :
    DecodesFaithfully .cr (commandWord ea false false ie :: bytes) (decodeRelease ea ie bytes) := by
  unfold decodeRelease
  split
  next k rest =>
    split
    next value => exact decodesFaithfully_ok rfl rfl (by rw [eq_of_value value]; rfl)
    · exact decodesFaithfully_error _ _ _
    next value => exact decodesFaithfully_ok rfl rfl (by rw [eq_of_value value]; rfl)
    next value => exact decodesFaithfully_ok rfl rfl (by rw [eq_of_value value]; rfl)
    · exact decodesFaithfully_error _ _ _
  · exact decodesFaithfully_error _ _ _

/-- R99 to R104: the control words. -/
theorem decodeCr_faithful (bytes : List Byte) : DecodesFaithfully .cr bytes (decodeCr bytes) := by
  cases bytes with
  | nil => exact decodesFaithfully_error _ _ _
  | cons w rest =>
    simp only [decodeCr]
    split_ifs with start stop release
    · exact decodesFaithfully_ok rfl rfl (congrArg (· :: rest) start)
    · exact decodesFaithfully_ok rfl rfl (congrArg (· :: rest) stop)
    · have reads := decodeRelease_faithful (w.getLsbD 6) (w.getLsbD 0) rest
      rwa [← release] at reads
    · exact decodesFaithfully_error _ _ _

theorem decodeAddrByte_faithful (bytes : List Byte) : DecodesFaithfully .addrbyte bytes (decodeAddrByte bytes) := by
  cases bytes with
  | nil => exact decodesFaithfully_error _ _ _
  | cons w rest => exact decodesFaithfully_ok rfl rfl (congrArg (· :: rest) (addrByteOf_reads w).symm)

theorem decodeEvent_faithful (bytes : List Byte) : DecodesFaithfully .event bytes (decodeEvent bytes) := by
  cases bytes with
  | nil => exact decodesFaithfully_error _ _ _
  | cons w rest =>
    simp only [decodeEvent]
    split
    case h_11 => split_ifs <;> exact decodesFaithfully_error _ _ _
    all_goals next value => exact decodesFaithfully_ok rfl rfl (by rw [eq_of_value value]; rfl)

theorem decodeError_faithful (bytes : List Byte) : DecodesFaithfully .error bytes (decodeError bytes) := by
  cases bytes with
  | nil => exact decodesFaithfully_error _ _ _
  | cons w rest =>
    simp only [decodeError]
    split
    next value => exact decodesFaithfully_ok rfl rfl (by rw [eq_of_value value]; rfl)
    next value => exact decodesFaithfully_ok rfl rfl (by rw [eq_of_value value]; rfl)
    · split_ifs <;> exact decodesFaithfully_error _ _ _

/-! Format STATUS: the code is all that is read. -/

theorem codeByte_codeOf (w : Byte) : codeByte (codeOf w) = w &&& 0xF8#8 := by
  revert w; decide

/-- R95: the arm of a code is well formed and is encoded by that code. -/
theorem armOf_encode (bytesRemain : Bool) (c : Code) :
    (armOf bytesRemain c).wellFormed = true ∧ (encode (armOf bytesRemain c)).format = .status ∧
      (encode (armOf bytesRemain c)).bytes = [codeByte c] := by
  revert bytesRemain c; decide

/-- R189, R191: code 0x28 selects by the condition. -/
theorem armOf_txdAck (bytesRemain : Bool) (c : Code) (txdAck : codeByte c = 0x28#8) :
    armOf bytesRemain c = if bytesRemain then .stTxdAckMore else .stTxdAckLast := by
  revert bytesRemain c; decide

/-- Settles O2: a status word by `armOf_encode`, a word of any other port by the lemma of its decoder. -/
theorem decodedWordIsItsEncoding : Obligations.DecodedWordIsItsEncoding := by
  unfold Obligations.DecodedWordIsItsEncoding
  rintro ⟨port, bytesRemain, bytes⟩ i rest decoded
  have other (faithful : DecodesFaithfully port bytes (.ok (i, rest))) (notStatus : port ≠ .status) :
      i.wellFormed = true ∧ (encode i).format = port ∧
        (port = .status → ∃ b : Byte, bytes = b :: rest ∧ (encode i).bytes = [b &&& 0xF8#8] ∧
          (b &&& 0xF8#8 = 0x28#8 → i = if bytesRemain then .stTxdAckMore else .stTxdAckLast)) ∧
        (port ≠ .status → bytes = (encode i).bytes ++ rest) := by
    obtain ⟨wellFormed, format, same⟩ := faithful i rest rfl
    exact ⟨wellFormed, format, fun status => absurd status notStatus, fun _ => same⟩
  cases port with
  | status =>
    cases bytes with
    | nil => cases decoded
    | cons w rest =>
      rw [decode_status] at decoded
      cases decoded
      obtain ⟨wellFormed, format, encoded⟩ := armOf_encode bytesRemain (codeOf w)
      refine ⟨wellFormed, format, fun _ => ⟨w, rfl, ?_, fun txdAck => ?_⟩, fun notStatus => absurd rfl notStatus⟩
      · rw [encoded, codeByte_codeOf]
      · exact armOf_txdAck bytesRemain (codeOf w) ((codeByte_codeOf w).trans txdAck)
  | hostcmd => exact other (decoded ▸ decodeHost_faithful bytes) nofun
  | cr => exact other (decoded ▸ decodeCr_faithful bytes) nofun
  | addrbyte => exact other (decoded ▸ decodeAddrByte_faithful bytes) nofun
  | event => exact other (decoded ▸ decodeEvent_faithful bytes) nofun
  | error => exact other (decoded ▸ decodeError_faithful bytes) nofun

/-- Settles O3: each of the eleven words is decoded by evaluation. -/
theorem specifiedWordsDecode : Obligations.SpecifiedWordsDecode := by
  unfold Obligations.SpecifiedWordsDecode
  exact ⟨rfl, rfl, rfl, rfl, rfl, rfl, rfl, rfl, rfl, rfl, rfl⟩

/-! An address operand above 0x7F (R96). -/

theorem sevenBit_eq_false {a : Byte} (above : 0x7F < a.toNat) : sevenBit a = false :=
  decide_eq_false (Nat.not_le.2 above)

theorem decodeTransfer_addressRange (mk : Ptr → Len → Byte → Bool → Instr) (buf : Ptr) (len : Len) {a : Byte}
    (rep : Bool) (above : 0x7F < a.toNat) :
    decodeTransfer mk (wordBytes buf ++ wordBytes len ++ [a, flagByte rep]) = .error .addressRange := by
  simp [decodeTransfer, wordBytes, sevenBit_eq_false above]

theorem decodeHost_init_addressRange (speed : BitVec 32) {a : Byte} (r : Role) (above : 0x7F < a.toNat) :
    decodeHost (encode (.init speed a r)).bytes = .error .addressRange := by
  simp [encode, encodeHost, decodeHost, decodeInit, longBytes, sevenBit_eq_false above]

theorem decodeHost_addressTx_addressRange {a : Byte} (d : Dir) (above : 0x7F < a.toNat) :
    decodeHost (encode (.addressTx a d)).bytes = .error .addressRange := by
  simp [encode, encodeHost, decodeHost, decodeAddressTx, sevenBit_eq_false above]

end Sys2Proof

namespace Sys2Proof.Machine

theorem issueWord_addressRange {bytes : List Byte} (rejects : decodeHost bytes = .error .addressRange) (s : State) :
    issueWord bytes s = .refused .addressRange := by
  rw [issueWord, rejects]

/-- Settles O5: the byte's value by `addrByteOf_toNat`; of each operation with an address operand, the decoder of its
operands rejects the address, and the port with it. -/
theorem addressByte : Obligations.AddressByte := by
  unfold Obligations.AddressByte
  refine ⟨fun a => ⟨addrByteOf_toNat a .write, addrByteOf_toNat a .read⟩, by decide, by decide, ?_⟩
  intro i a above operation
  have rejected (port : (encode i).format = .hostcmd)
      (rejects : decodeHost (encode i).bytes = .error .addressRange) :
      decode (encode i) = .error .addressRange ∧ ∀ s : State, issueWord (encode i).bytes s = .refused .addressRange := by
    refine ⟨?_, issueWord_addressRange rejects⟩
    rw [decode, port]
    exact rejects
  rcases operation with ⟨speed, r, rfl⟩ | ⟨d, rfl⟩ | ⟨p, n, rep, rfl | rfl | rfl | rfl⟩
  · exact rejected rfl (decodeHost_init_addressRange speed r above)
  · exact rejected rfl (decodeHost_addressTx_addressRange d above)
  all_goals exact rejected rfl (decodeTransfer_addressRange _ p n rep above)

/-! The handler's dispatch (R166). -/

theorem State.fetchArm_of_code {s : State} {c : Code} (code : s.sr.code = c) :
    s.fetchArm = armOf (decide (s.inst.txLen ≠ 0#16)) c := by
  rw [← code, fetchArm, readReg_sr, StatusReg.word, codeOf_statusWord]

/-- Settles O6: by `State.fetchArm_of_code`, the arm is the table's row of the code, and for code 0x28 the condition on
`TxLen` selects. -/
theorem handlerDispatch : Obligations.HandlerDispatch := by
  unfold Obligations.HandlerDispatch
  intro s
  refine ⟨?_, ?_, ?_, ?_, ?_, fun ⟨txdAck, someLeft⟩ => ?_, fun ⟨txdAck, noneLeft⟩ => ?_, ?_, ?_, ?_, ?_, ?_, ?_, ?_,
    ?_, ?_, ?_, ?_, ?_, ?_, ?_, ?_, ?_, ?_, ?_, ?_, ?_, ?_, ?_, ?_, ?_, ?_, ?_⟩
  case refine_6 => rw [State.fetchArm_of_code txdAck, decide_eq_true someLeft]; rfl
  case refine_7 => rw [State.fetchArm_of_code txdAck, decide_eq_false (not_not_intro noneLeft)]; rfl
  all_goals exact State.fetchArm_of_code

/-- Settles O36: both opcodes are refused whatever the state. -/
theorem unknownCommandsRefused : Obligations.UnknownCommandsRefused := by
  unfold Obligations.UnknownCommandsRefused
  exact fun _ => ⟨rfl, rfl⟩

end Sys2Proof.Machine
end

section
/-! PROOFS. Buffer memory read after a write (R60), the reset input (R47, R300 to R302), the controller commands as single
writes of CR (R99 to R104), and `Init` (R260 to R265). -/

namespace Sys2Proof.Machine

/-- Settles O15: `Memory.read_write` at two pointers, which are equal when their addresses are, and `Memory.wf_write`. -/
theorem memoryWriteThenRead : Obligations.MemoryWriteThenRead := by
  unfold Obligations.MemoryWriteThenRead
  refine fun m p q v wf => ⟨?_, Memory.wf_write wf p v⟩
  simp only [Memory.read_write wf, BitVec.toNat_inj]

/-! The reset input. -/

theorem step_of_reset {s t : State} (reset : s.resetNext = some t) : step s = .next t := by
  simp [step, reset]

/-- Settles O12: a reset turn is taken first, and leaves `State.afterReset`, which the statement writes out. -/
theorem resetInputRestoresState : Obligations.ResetInputRestoresState := by
  unfold Obligations.ResetInputRestoresState
  intro s gie image turns next
  refine step_of_reset ?_
  rw [State.resetNext, next]
  rfl

/-- Settles O13: every field that the invariant speaks of is at its reset value. -/
theorem resetSatisfiesInvariant : Obligations.ResetSatisfiesInvariant where
  memory := rfl
  ready _ := ⟨rfl, rfl, rfl, rfl⟩
  sending := nofun
  receiving := nofun
  slaveReady := nofun
  blocking held := absurd rfl held
  noHandler := rfl
  noDelivery := rfl
  noPortWord := rfl

/-! The controller commands. -/

/-- R91, R99: the value of a command's control word, by its four fields. -/
theorem commandWord_toNat (ea sta sto ie : Bool) :
    (commandWord ea sta sto ie).toNat = 0x80 + ea.toNat * 64 + sta.toNat * 32 + sto.toNat * 16 + 0x04 + ie.toNat := by
  revert ea sta sto ie; decide

/-- What a command that is neither START nor STOP puts in flight. -/
theorem State.launch_of_other {p : Pending} (s : State) (notStart : p ≠ .start) (notStop : p ≠ .stop) :
    s.launch p = { s.env with pend := p, stopFirst := s.env.stopFirst || decide (s.env.pend = .stop) } := by
  simp [launch, notStart, notStop]

theorem State.stopIsSilent_eq (s : State) :
    s.stopIsSilent = decide (s.sr.code = Status.busError ∨ s.inst.cfg.role = .slave) :=
  (Bool.decide_or _ _).symm

/-- Settles O16: what a command puts in flight by its kind, START, STOP or another; the word by `commandWord_toNat`; each
command is one of its shape, `cmd_xmit` by `CR.INT`. -/
theorem controllerCommands : Obligations.ControllerCommands := by
  unfold Obligations.ControllerCommands
  refine ⟨fun s ea sta sto ie p => ⟨?_, commandWord_toNat ea sta sto ie⟩, fun _ _ => rfl,
    fun s b => ⟨cmdXmit_of_int, cmdXmit_of_not_int⟩, fun _ _ => rfl, fun _ => rfl, fun _ => rfl⟩
  rw [← State.stopIsSilent_eq]
  cases p <;> simp [State.command, State.launch]

/-! The rows of formats CR and ADDRBYTE. -/

theorem exec_cmdXmit_of_int {s : State} (int : s.cr.int = true) (ea ie : Bool) (b : Byte) :
    exec (.cmdXmit ea ie b) s = .next ({ s with dr := b }.command ea false false ie (.tx b)) := by
  change execCmdXmit ea ie b s = _
  rw [execCmdXmit, writeData_of_int int, andThen_next]

theorem exec_cmdXmit_of_not_int {s : State} (noInt : s.cr.int = false) (ea ie : Bool) (b : Byte) :
    exec (.cmdXmit ea ie b) s = .fault .writeCollision := by
  have collides : writeData b s = .fault .writeCollision := by simp [writeData, noInt]
  change execCmdXmit ea ie b s = _
  rw [execCmdXmit, collides, andThen_fault]

/-- Settles O17: the rows that write DR by `CR.INT`, the others by their definition; `cmd_xmit` is its row with the bits of
the register in either case. -/
theorem commandRows : Obligations.CommandRows := by
  unfold Obligations.CommandRows
  intro s
  refine ⟨fun _ _ => rfl, fun _ _ => rfl, fun _ _ => rfl, fun _ _ => rfl, exec_cmdXmit_of_int,
    fun int a d => cmdXmit_of_int int,
    fun noInt => ⟨exec_cmdXmit_of_not_int noInt, fun a d => cmdXmit_of_not_int noInt⟩, fun _ => rfl, fun b => ?_,
    fun _ => rfl, rfl, rfl⟩
  cases int : s.cr.int with
  | true => rw [cmdXmit_of_int int, exec_cmdXmit_of_int int]
  | false => rw [cmdXmit_of_not_int int, exec_cmdXmit_of_not_int int]

/-! `Init`. -/

/-- R261: the own-address register holds the address shifted left by one. -/
theorem addr7_append_zero (a : Byte) : addr7 a ++ 0#1 = a <<< 1 := by
  apply BitVec.eq_of_toNat_eq
  simp only [addr7, BitVec.toNat_append, BitVec.toNat_setWidth, BitVec.toNat_ofNat, BitVec.toNat_shiftLeft,
    Nat.shiftLeft_eq,
    Nat.zero_mod, Nat.or_zero]
  omega

theorem exec_init {s : State} {speed : BitVec 32} {a : Byte} {r : Role} (ready : s.inst.state = .ready)
    (masked : s.cr.ie = false) (range : sevenBit a = true) :
    exec (.init speed a r) s = .next ((s.configured speed (addr7 a) r).enabled r) := by
  change execInit speed a r s = _
  simp [execInit, State.busy, ready, masked, range]

theorem exec_init_active {s : State} (speed : BitVec 32) (a : Byte) (r : Role)
    (active : s.inst.state ≠ .ready ∨ s.cr.ie = true) : exec (.init speed a r) s = .refused .initWhileActive := by
  change execInit speed a r s = _
  simp [execInit, State.busy, active]

theorem exec_init_addressRange {s : State} {a : Byte} (speed : BitVec 32) (r : Role) (ready : s.inst.state = .ready)
    (masked : s.cr.ie = false) (range : sevenBit a = false) :
    exec (.init speed a r) s = .refused .addressRange := by
  change execInit speed a r s = _
  simp [execInit, State.busy, ready, masked, range]

/-- Settles O18: the three answers of `Init` by their conditions; of what it writes, the own-address register by
`addr7_append_zero` and what the slave role puts in flight by `State.launch_of_other`. -/
theorem init : Obligations.Init := by
  unfold Obligations.Init
  refine fun s speed a => ⟨fun ⟨ready, masked, range⟩ => ?_, fun r => ⟨exec_init_active speed a r,
    fun ⟨ready, masked, above⟩ => exec_init_addressRange speed r ready masked (sevenBit_eq_false above)⟩⟩
  have configured (r : Role) := exec_init (r := r) (speed := speed) ready masked (sevenBit_iff.2 range)
  rw [configured, configured, ← addr7_append_zero a]
  refine ⟨rfl, ?_⟩
  have listening := (s.configured speed (addr7 a) .slave).launch_of_other (p := .listen) nofun nofun
  rw [State.enabled, listening]
  rfl

end Sys2Proof.Machine
end

section
/-! PROOFS. ENV (R71 to R79): what any of its moves leaves as it was, and the completions one by one. -/

namespace Sys2Proof.Machine

/-! What every move of ENV leaves as it was. -/

/-- R30, R44: from `s` to `t` nothing is written but CR.INT, CR.STO, CR.WC, SR.code, DR, ENV's hidden state and the wire,
which only grows. -/
structure EnvWrites (s t : State) : Prop where
  own : t =
    { s with
      cr := { s.cr with int := t.cr.int, sto := t.cr.sto, wc := t.cr.wc }
      sr := { s.sr with code := t.sr.code }
      dr := t.dr
      env := t.env
      wire := t.wire }
  wire : s.wire <+: t.wire

namespace EnvWrites

theorem refl (s : State) : EnvWrites s s := ⟨rfl, List.prefix_rfl⟩

theorem complete (s : State) (c : Code) : EnvWrites s (s.complete c) := ⟨rfl, List.prefix_rfl⟩

theorem stopServed (s : State) : EnvWrites s s.stopServed := by
  refine ⟨rfl, ?_⟩
  unfold State.stopServed
  split_ifs
  · exact List.prefix_rfl
  · exact List.prefix_append _ _

theorem txServed (s : State) (b : Byte) (ack : Bool) : EnvWrites s (s.txServed b ack) := by
  unfold State.txServed
  split
  · exact ⟨rfl, List.prefix_append _ _⟩
  · exact refl s

theorem rxServed (s : State) (d : Byte) : EnvWrites s (s.rxServed d) := by
  unfold State.rxServed
  split
  · exact ⟨rfl, List.prefix_append _ _⟩
  · exact refl s

theorem replied (s : State) (ack : Bool) (d : Byte) : EnvWrites s (s.replied ack d) := by
  unfold State.replied
  split_ifs
  · exact stopServed s
  · cases s.env.pend with
    | none | listen => exact refl s
    | start => exact ⟨rfl, List.prefix_append _ _⟩
    | tx b => exact txServed s b ack
    | rx => exact rxServed s d
    | stop => exact stopServed s

theorem slaveServed (s : State) (bus : SlaveBus) : EnvWrites s (s.slaveServed bus) := by
  cases bus with
  | addressWrite | stopOrRestart | addressRead =>
    simp only [State.slaveServed]
    split_ifs
    · exact complete s _
    · exact refl s
  | data b =>
    simp only [State.slaveServed]
    split
    · exact ⟨rfl, List.prefix_append _ _⟩
    · exact refl s

theorem envStep (m : EnvMove) (s : State) : EnvWrites s (envStep m s) := by
  cases m with
  | reply ack d =>
    simp only [Machine.envStep]
    split_ifs
    · exact refl s
    · exact replied s ack d
  | busError | arbLost =>
    simp only [Machine.envStep]
    split_ifs
    · exact complete s _
    · exact refl s
  | slave bus =>
    simp only [Machine.envStep]
    split_ifs
    · exact slaveServed s bus
    · exact refl s
  | answer c d wc items =>
    simp only [Machine.envStep]
    split_ifs
    · exact refl s
    · exact ⟨rfl, List.prefix_append _ _⟩

end EnvWrites

/-- R32, R68: while `CR.INT = 1` ENV changes nothing. -/
theorem envStep_of_int {s : State} (int : s.cr.int = true) (m : EnvMove) : envStep m s = s := by
  cases m <;> simp [envStep, int]

/-- Settles O49: the frame by `EnvWrites.envStep`, move by move. -/
theorem envWritesOnlyItsOwn : Obligations.EnvWritesOnlyItsOwn := by
  unfold Obligations.EnvWritesOnlyItsOwn
  intro m s
  obtain ⟨own, items, grows⟩ := EnvWrites.envStep m s
  exact ⟨own, .inr ⟨items, grows.symm⟩, fun int => envStep_of_int int m⟩

/-! The well-behaved answer, by what is in flight. -/

theorem envStep_reply {s : State} (noInt : s.cr.int = false) (ack : Bool) (d : Byte) :
    envStep (.reply ack d) s = s.replied ack d := by
  simp [envStep, noInt]

/-- R78: a STOP in flight goes out first. -/
theorem State.replied_stop {s : State} (stop : s.env.pend = .stop ∨ s.env.stopFirst = true) (ack : Bool) (d : Byte) :
    s.replied ack d = s.stopServed := by
  cases first : s.env.stopFirst with
  | true => simp [replied, first]
  | false =>
    have pend : s.env.pend = .stop := stop.resolve_right (by simp [first])
    simp [replied, first, pend]

theorem State.replied_start {s : State} (noStop : s.env.stopFirst = false) (pend : s.env.pend = .start) (ack : Bool)
    (d : Byte) : s.replied ack d = s.startServed := by
  simp [replied, noStop, pend]

theorem State.replied_tx {s : State} {b : Byte} (noStop : s.env.stopFirst = false) (pend : s.env.pend = .tx b)
    (ack : Bool) (d : Byte) : s.replied ack d = s.txServed b ack := by
  simp [replied, noStop, pend]

theorem State.replied_rx {s : State} (noStop : s.env.stopFirst = false) (pend : s.env.pend = .rx) (ack : Bool)
    (d : Byte) : s.replied ack d = s.rxServed d := by
  simp [replied, noStop, pend]

/-! The code that answers a transmitted byte (R73, R74, R79), by the code before it. -/

theorem txAnswer_address {c : Code} (started : c = Status.start ∨ c = Status.rstart) (ea : Bool) (b : Byte)
    (ack : Bool) : txAnswer c ea b ack =
      some (if b.getLsbD 0 then (if ack then Status.slarAck else Status.slarNack)
        else (if ack then Status.slawAck else Status.slawNack)) := by
  refine (if_pos (isStartSent_iff.2 started)).trans ?_
  cases b.getLsbD 0 <;> cases ack <;> rfl

theorem txAnswer_data {c : Code}
    (writing : c = Status.slawAck ∨ c = Status.txdAck ∨ c = Status.slawNack ∨ c = Status.txdNack) (ea : Bool)
    (b : Byte) (ack : Bool) : txAnswer c ea b ack = some (if ack then Status.txdAck else Status.txdNack) := by
  rcases writing with rfl | rfl | rfl | rfl <;> rfl

theorem txAnswer_slave {c : Code} (sending : c = Status.ssSlarAck ∨ c = Status.ssTxdAck) (ea : Bool) (b : Byte)
    (ack : Bool) : txAnswer c ea b ack =
      some (if ack then (if ea then Status.ssTxdAck else Status.ssTxlastAck) else Status.ssTxdNack) := by
  rcases sending with rfl | rfl <;> rfl

/-- R73, R74: a byte in flight is answered by its code. -/
theorem envStep_reply_tx {s : State} {b : Byte} {c : Code} {ack : Bool} (noInt : s.cr.int = false)
    (noStop : s.env.stopFirst = false) (pend : s.env.pend = .tx b)
    (answer : txAnswer s.sr.code s.cr.ea b ack = some c) (d : Byte) :
    envStep (.reply ack d) s = (s.onWire [.tx b ack]).complete c := by
  rw [envStep_reply noInt, State.replied_tx noStop pend, State.txServed, answer]

/-- R72: START in flight is answered as the bus is owned or not. -/
theorem envStep_reply_start {s : State} (noInt : s.cr.int = false) (noStop : s.env.stopFirst = false)
    (pend : s.env.pend = .start) (ack : Bool) (d : Byte) : envStep (.reply ack d) s = s.startServed := by
  rw [envStep_reply noInt, State.replied_start noStop pend]

/-- R75: a receive in flight, in the master-receive phase, is answered by `CR.EA`. -/
theorem envStep_reply_rx {s : State} (noInt : s.cr.int = false) (noStop : s.env.stopFirst = false)
    (pend : s.env.pend = .rx) (phase : s.sr.code = Status.slarAck ∨ s.sr.code = Status.rxdAck) (ack : Bool)
    (d : Byte) : envStep (.reply ack d) s =
      { (s.onWire [.rx d s.cr.ea]).complete (if s.cr.ea then Status.rxdAck else Status.rxdNack) with dr := d } := by
  rw [envStep_reply noInt, State.replied_rx noStop pend, State.rxServed, if_pos (isReadPhase_iff.2 phase)]

/-- R78: a STOP in flight goes out, queued behind nothing. -/
theorem envStep_reply_stop {s : State} (noInt : s.cr.int = false)
    (stop : s.env.pend = .stop ∨ s.env.stopFirst = true) (ack : Bool) (d : Byte) :
    envStep (.reply ack d) s = s.stopServed := by
  rw [envStep_reply noInt, State.replied_stop stop]

/-! The failing answers (R76). -/

theorem envStep_busError {s : State} (noInt : s.cr.int = false) (noStop : s.env.stopFirst = false)
    (canFail : s.env.pend.canFail = true) : envStep .busError s = s.complete Status.busError := by
  simp [envStep, noInt, noStop, canFail]

theorem envStep_arbLost {s : State} (noInt : s.cr.int = false) (noStop : s.env.stopFirst = false)
    (master : s.masterPending = true) : envStep .arbLost s = s.complete Status.arbLost := by
  simp [envStep, noInt, noStop, master]

/-- Settles O50: each completion by its equation; those of R76 by what is in flight. -/
theorem envMasterCompletions : Obligations.EnvMasterCompletions := by
  unfold Obligations.EnvMasterCompletions
  intro s ack d noInt noStop completed
  refine ⟨fun pend => ?_, fun b pend started => ?_, fun b pend writing => ?_, fun pend phase => ?_, fun failing => ?_⟩
  · rw [envStep_reply_start noInt noStop pend, State.startServed]
    cases s.env.busOwned <;> rfl
  · exact envStep_reply_tx noInt noStop pend (txAnswer_address started _ _ _) d
  · exact envStep_reply_tx noInt noStop pend (txAnswer_data writing _ _ _) d
  · exact envStep_reply_rx noInt noStop pend phase ack d
  · have canFail : s.env.pend.canFail = true := by
      rcases failing with pend | pend | ⟨-, b, pend⟩ <;> rw [pend] <;> rfl
    have master : s.masterPending = true := by
      rcases failing with pend | pend | ⟨role, b, pend⟩ <;> simp [State.masterPending, *]
    rw [envStep_busError noInt noStop canFail, envStep_arbLost noInt noStop master]
    simp [completed, State.complete]

/-- Settles O51: the answer is `State.stopServed`, which the statement writes out. -/
theorem envCompletesStop : Obligations.EnvCompletesStop := by
  unfold Obligations.EnvCompletesStop
  intro s ack d noInt stop
  exact envStep_reply_stop noInt stop ack d

/-! The moves of a remote master (R79). -/

theorem envStep_slave {s : State} (noInt : s.cr.int = false) (noStop : s.env.stopFirst = false)
    (en : s.cr.en = true) (pend : s.env.pend = .listen) (bus : SlaveBus) :
    envStep (.slave bus) s = s.slaveServed bus := by
  simp [envStep, noInt, noStop, en, pend]

theorem slaveReceiving_iff {c : Code} : slaveReceiving c = true ↔ c = Status.ssSlawAck ∨ c = Status.ssRxdAck := by
  simp [slaveReceiving]

/-- Settles O52: each completion by its equation; whether the block is addressed for writing, and CR.EA, decide what a
listening slave answers. -/
theorem envSlaveCompletions : Obligations.EnvSlaveCompletions := by
  unfold Obligations.EnvSlaveCompletions
  intro s noInt noStop en completed
  refine ⟨fun pend notSlaw notRxd => ?_, fun pend receiving => ?_, fun b d ack pend sending => ?_, fun failing => ?_⟩
  · have unaddressed : slaveReceiving s.sr.code = false :=
      Bool.eq_false_iff.2 fun receiving => (slaveReceiving_iff.1 receiving).elim notSlaw notRxd
    have served := envStep_slave noInt noStop en pend
    refine ⟨fun ea => ?_, fun noEa => ?_⟩ <;> rw [served, served] <;>
      simp [State.slaveServed, completed, State.complete, *]
  · have addressed : slaveReceiving s.sr.code = true := slaveReceiving_iff.2 receiving
    have served := envStep_slave noInt noStop en pend
    refine ⟨fun b => ?_, ?_⟩ <;> rw [served] <;>
      simp [State.slaveServed, completed, State.complete, State.onWire, *]
  · exact envStep_reply_tx noInt noStop pend (txAnswer_slave sending _ _ _) d
  · have canFail : s.env.pend.canFail = true := by
      rcases failing with pend | ⟨b, pend⟩ <;> rw [pend] <;> rfl
    rw [envStep_busError noInt noStop canFail]
    simp [completed, State.complete]

end Sys2Proof.Machine
end

section
/-! PROOFS. The step (R10, R272, R278) and the agents' moves: the handler, HOST and ENV as `turns` or the eager schedule
says, the word on a port, and the busy-wait that nothing lifts (R77, R131, R286). -/

namespace Sys2Proof.Machine

/-! Which agent a step is. -/

theorem step_of_halted {s : State} (noReset : ResetNotNext s) (halted : s.halted = true) :
    step s = haltedStep s := by
  have notReset : s.resetNext = none := noReset
  simp [step, notReset, halted]

theorem step_of_interrupt {s : State} (noReset : ResetNotNext s) (interrupt : s.interruptCondition = true) :
    step s = handlerStep s := by
  have notReset : s.resetNext = none := noReset
  have running : s.halted = false := by
    simp only [State.interruptCondition, Bool.and_eq_true, Bool.not_eq_true'] at interrupt
    exact interrupt.2
  simp [step, notReset, running, interrupt]

theorem step_of_no_interrupt {s : State} (noReset : ResetNotNext s) (running : s.halted = false)
    (noInterrupt : s.interruptCondition = false) : step s = agentStep s := by
  have notReset : s.resetNext = none := noReset
  simp [step, notReset, running, noInterrupt]

theorem interruptCondition_of_masked {s : State}
    (masked : s.cr.int = false ∨ s.cr.ie = false ∨ s.gie = false ∨ s.inHandler = true) :
    s.interruptCondition = false := by
  rcases masked with h | h | h | h <;> simp [State.interruptCondition, State.pendingInterrupt, h]

/-- R94, R166: the decoder reads from SR the arm that the handler fetches. -/
theorem decode_fetchArm (s : State) :
    decode ⟨.status, decide (s.inst.txLen ≠ 0#16), [s.sr.word]⟩ = .ok (s.fetchArm, []) :=
  decode_status _ _ _

/-- Settles O7: the three branches of the step, by `halted` and the interrupt condition. -/
theorem stepRunsHandlerArm : Obligations.StepRunsHandlerArm := by
  unfold Obligations.StepRunsHandlerArm
  refine fun s noReset => ⟨step_of_halted noReset, fun running ⟨int, ie, gie, notIn⟩ => ⟨decode_fetchArm s, ?_⟩,
    fun running masked noPortWord => step_eq_agentMove ⟨noReset, running, masked, noPortWord⟩⟩
  have interrupt : s.interruptCondition = true := by
    simp [State.interruptCondition, State.pendingInterrupt, int, ie, gie, notIn, running]
  exact step_of_interrupt noReset interrupt

/-! Whose move it is, by `turns` or the eager schedule (log entry 9). -/

theorem agentMove_host {s : State} {turns : List Turn} (next : s.turns = .host :: turns) :
    agentMove s = hostTurn { s with turns := turns } := by
  simp [agentMove, next]

theorem agentMove_env {s : State} {turns : List Turn} (next : s.turns = .env :: turns) :
    agentMove s = .next (envTurn { s with turns := turns }) := by
  simp [agentMove, next]

theorem State.envIsNext_iff {s : State} : s.envIsNext = true ↔ s.env.pend ≠ .none ∧ s.envMoves ≠ [] := by
  simp [envIsNext]

theorem State.envIsNext_eq_false {s : State} (idle : s.env.pend = .none ∨ s.envMoves = []) :
    s.envIsNext = false := by
  rcases idle with h | h <;> simp [envIsNext, h]

theorem agentMove_eager_env {s : State} (eager : s.turns = []) (isNext : s.envIsNext = true) :
    agentMove s = .next (envTurn s) := by
  simp [agentMove, eager, isNext]

theorem agentMove_eager_host {s : State} (eager : s.turns = []) (notNext : s.envIsNext = false) :
    agentMove s = hostTurn s := by
  simp [agentMove, eager, notNext]

theorem envTurn_cons {s : State} {m : EnvMove} {moves : List EnvMove} (next : s.envMoves = m :: moves) :
    envTurn s = envStep m { s with envMoves := moves } := by
  simp [envTurn, next]

theorem envTurn_nil {s : State} (none : s.envMoves = []) : envTurn s = s := by
  simp [envTurn, none]

/-! An idle HOST's moves, and a held one's poll. -/

theorem hostTurn_command {s : State} {bytes : List Byte} {moves : List AppMove} (idle : s.host = .idle)
    (next : s.app = .command bytes :: moves) : hostTurn s = issueWord bytes { s with app := moves } := by
  simp [hostTurn, idle, next]

theorem hostTurn_waitReady {s : State} {moves : List AppMove} (idle : s.host = .idle)
    (next : s.app = .waitReady :: moves) : hostTurn s = waitReady moves s := by
  simp [hostTurn, idle, next]

theorem hostTurn_poll {s : State} (held : s.host ≠ .idle) (noInt : s.cr.int = false) : hostTurn s = .next s := by
  unfold hostTurn
  split
  · contradiction
  · simp [noInt]

/-! A word on a port. -/

theorem issueWord_ok {bytes : List Byte} {i : Instr} {rest : List Byte}
    (decodes : decode ⟨.hostcmd, false, bytes⟩ = .ok (i, rest)) (s : State) : issueWord bytes s = exec i s := by
  have decodes : decodeHost bytes = .ok (i, rest) := decodes
  rw [issueWord, decodes]

theorem issueWord_error {bytes : List Byte} {e : DecodeError}
    (rejects : decode ⟨.hostcmd, false, bytes⟩ = .error e) (s : State) :
    issueWord bytes s = .refused (if e = .addressRange then .addressRange else .malformedWord e) := by
  have rejects : decodeHost bytes = .error e := rejects
  rw [issueWord, rejects]
  cases e <;> rfl

theorem portWordStep_ok {bytes : List Byte} {i : Instr} {rest : List Byte}
    (decodes : decode ⟨.cr, false, bytes⟩ = .ok (i, rest)) (s : State) : portWordStep bytes s = exec i s := by
  have decodes : decodeCr bytes = .ok (i, rest) := decodes
  rw [portWordStep, decodes]

theorem portWordStep_error {bytes : List Byte} {e : DecodeError} (rejects : decode ⟨.cr, false, bytes⟩ = .error e)
    (s : State) : portWordStep bytes s = .refused (.malformedWord e) := by
  have rejects : decodeCr bytes = .error e := rejects
  rw [portWordStep, rejects]

/-- Settles O8: the step is HOST's move under either schedule, HOST's move is the word on its port, and the word is run or
refused as it decodes; likewise a word laid on the register port. -/
theorem stepRunsIssuedCommand : Obligations.StepRunsIssuedCommand := by
  unfold Obligations.StepRunsIssuedCommand
  refine ⟨fun s bytes moves turns agents idle next => ?_, fun s bytes noReset running masked port => ?_⟩
  · have byTurn (turn : s.turns = .host :: turns) :
        step s = issueWord bytes { s with app := moves, turns := turns } := by
      rw [step_eq_agentMove agents, agentMove_host turn]
      exact hostTurn_command idle next
    have eagerly (eager : s.turns = [] ∧ (s.env.pend = .none ∨ s.envMoves = [])) :
        step s = issueWord bytes { s with app := moves } := by
      rw [step_eq_agentMove agents, agentMove_eager_host eager.1 (State.envIsNext_eq_false eager.2)]
      exact hostTurn_command idle next
    refine ⟨fun i rest decodes => ⟨fun turn => ?_, fun eager => ?_⟩, fun e rejects turn => ?_⟩
    · rw [byTurn turn, issueWord_ok decodes]
    · rw [eagerly eager, issueWord_ok decodes]
    · rcases turn with turn | eager
      · rw [byTurn turn, issueWord_error rejects]
      · rw [eagerly eager, issueWord_error rejects]
  · have laid : step s = portWordStep bytes { s with portWord := none } := by
      rw [step_of_no_interrupt noReset running (interruptCondition_of_masked masked), agentStep, port]
    rw [laid]
    exact ⟨fun i rest decodes => portWordStep_ok decodes _, fun e rejects => portWordStep_error rejects _⟩

/-- Settles O9: `agentMove` by the next turn or the eager schedule, `hostTurn` of an idle HOST by the application's next
move, of a held one by `hostTurn_poll`. -/
theorem agentMoves : Obligations.AgentMoves := by
  unfold Obligations.AgentMoves
  refine ⟨fun s agents => ?_, fun s moves idle => ?_, fun s => hostTurn_poll⟩
  · rw [step_eq_agentMove agents]
    refine ⟨fun turns => agentMove_host, fun turns m moves turn next => ?_, fun turns turn none => ?_,
      fun m moves eager inFlight next => ?_, fun eager idle => ?_⟩
    · rw [agentMove_env turn]
      exact congrArg _ (envTurn_cons (s := { s with turns := turns }) next)
    · rw [agentMove_env turn]
      exact congrArg _ (envTurn_nil (s := { s with turns := turns }) none)
    · rw [agentMove_eager_env eager (State.envIsNext_iff.2 ⟨inFlight, by simp [next]⟩), envTurn_cons next]
    · exact agentMove_eager_host eager (State.envIsNext_eq_false idle)
  · refine ⟨fun p b next => ?_, fun b next => ?_, fun ⟨next, ready⟩ => ?_, fun ⟨next, busy⟩ => ?_, fun none => ?_⟩
    · simp [hostTurn, idle, next, State.storeAt]
    · simp [hostTurn, idle, next]
    · rw [hostTurn_waitReady idle next]
      simp [waitReady, State.busy, ready]
    · rw [hostTurn_waitReady idle next]
      simp [waitReady, State.busy, busy]
    · simp [hostTurn, idle, none]

/-! The busy-wait that nothing lifts. -/

/-- With nothing in flight, or with no move left, no move of ENV does anything. -/
def State.EnvIdle (s : State) : Prop := s.env.pend = .none ∧ s.env.stopFirst = false ∨ s.envMoves = []

/-- R131: HOST is held with `CR.INT = 0`, and nothing that could come (a completion, a control word, the reset input) lifts
the wait. -/
structure Stalled (s : State) : Prop where
  held : s.host ≠ .idle
  noInt : s.cr.int = false
  envIdle : s.EnvIdle
  noPortWord : s.portWord = none
  noReset : NoReset s

/-- R71 to R79: with nothing in flight no move of ENV changes anything. -/
theorem envStep_of_nothing {s : State} (pend : s.env.pend = .none) (noStop : s.env.stopFirst = false) (m : EnvMove) :
    envStep m s = s := by
  cases m <;> simp [envStep, State.replied, State.masterPending, Pending.canFail, pend, noStop]

theorem envTurn_of_envIdle {s : State} (idle : s.EnvIdle) :
    ∃ moves, envTurn s = { s with envMoves := moves } ∧ (s.envMoves = [] → moves = []) := by
  cases next : s.envMoves with
  | nil => exact ⟨[], by rw [envTurn_nil next, ← next], fun _ => rfl⟩
  | cons m moves =>
    obtain ⟨pend, noStop⟩ := idle.resolve_right (by simp [next])
    exact ⟨moves, by rw [envTurn_cons next]; exact envStep_of_nothing (s := { s with envMoves := moves }) pend noStop m, nofun⟩

/-- A stalled HOST stays stalled when only turns and moves of ENV are used up. -/
theorem Stalled.congr {s : State} (stalled : Stalled s) {turns : List Turn} {moves : List EnvMove}
    (fewerTurns : turns ⊆ s.turns) (fewerMoves : s.envMoves = [] → moves = []) :
    Stalled { s with turns := turns, envMoves := moves } where
  held := stalled.held
  noInt := stalled.noInt
  envIdle := stalled.envIdle.imp_right fewerMoves
  noPortWord := stalled.noPortWord
  noReset t next := stalled.noReset t (fewerTurns next)

theorem NoReset.resetNotNext {s : State} (noReset : NoReset s) : ResetNotNext s := by
  unfold ResetNotNext State.resetNext
  split
  next next => exact absurd (noReset _ (next ▸ List.mem_cons_self)) Bool.noConfusion
  · rfl

/-- A step of a stalled HOST uses up at most a turn and a move of ENV. -/
theorem Stalled.step {s : State} (stalled : Stalled s) : ∃ turns moves,
    step s = .next { s with turns := turns, envMoves := moves } ∧ turns ⊆ s.turns ∧ (s.envMoves = [] → moves = []) := by
  have noReset := stalled.noReset.resetNotNext
  by_cases halted : s.halted = true
  · exact ⟨s.turns.tail, s.envMoves, step_of_halted noReset halted, List.tail_subset _, id⟩
  rw [step_eq_agentMove ⟨noReset, by simpa using halted, .inl stalled.noInt, stalled.noPortWord⟩]
  cases next : s.turns with
  | nil =>
    cases isNext : s.envIsNext with
    | true =>
      obtain ⟨moves, env, fewer⟩ := envTurn_of_envIdle stalled.envIdle
      exact ⟨[], moves, by rw [agentMove_eager_env next isNext, env, ← next], List.Subset.refl _, fewer⟩
    | false =>
      refine ⟨[], s.envMoves, ?_, List.Subset.refl _, id⟩
      rw [agentMove_eager_host next isNext, hostTurn_poll stalled.held stalled.noInt, ← next]
  | cons turn turns =>
    have tail : turns ⊆ s.turns := next ▸ List.subset_cons_self turn turns
    cases turn with
    | rst gie image => exact absurd (stalled.noReset _ (next ▸ List.mem_cons_self)) Bool.noConfusion
    | host =>
      have still := stalled.congr tail id
      exact ⟨turns, s.envMoves, by rw [agentMove_host next, hostTurn_poll still.held still.noInt], next ▸ tail, id⟩
    | env =>
      obtain ⟨moves, env, fewer⟩ := envTurn_of_envIdle (stalled.congr tail id).envIdle
      exact ⟨turns, moves, by rw [agentMove_env next, env], next ▸ tail, fewer⟩

/-- A run of a stalled HOST uses up turns and moves of ENV, and changes nothing else. -/
theorem Stalled.run {s : State} (stalled : Stalled s) (n : Nat) : ∃ turns moves,
    Host.Core.run Sys2Proof.core n s = .next { s with turns := turns, envMoves := moves } := by
  induction n generalizing s with
  | zero => exact ⟨s.turns, s.envMoves, run_zero s⟩
  | succ n ih =>
    obtain ⟨turns, moves, steps, fewerTurns, fewerMoves⟩ := stalled.step
    rw [run_succ_of_step steps]
    exact ih (stalled.congr fewerTurns fewerMoves)

/-- Settles O10: such a HOST is `Stalled`, so that a run uses up turns and moves of ENV only. -/
theorem stuckHostNeverLeaves : Obligations.StuckHostNeverLeaves := by
  unfold Obligations.StuckHostNeverLeaves
  intro n s held noInt pend noStop noPortWord noReset
  obtain ⟨turns, moves, runs⟩ := Stalled.run ⟨held, noInt, .inl ⟨pend, noStop⟩, noPortWord, noReset⟩ n
  exact ⟨_, runs, rfl, rfl, rfl, rfl, rfl, rfl, rfl, rfl, rfl, rfl, rfl, rfl⟩

/-- R71: while `CR.INT = 0` the unconstrained oracle can answer whatever is in flight. -/
theorem envStep_answer {s : State} (noInt : s.cr.int = false) (inFlight : s.env.pend ≠ .none) (c : Code)
    (data : Option Byte) (wc : Bool) (items : List WireItem) :
    envStep (.answer c data wc items) s = s.answered c data wc items := by
  simp [envStep, noInt, inFlight]

/-- Settles O53: the oracle's answer is `State.answered`; a HOST whose ENV has no move left is `Stalled`. -/
theorem envMayAnswerAnything : Obligations.EnvMayAnswerAnything := by
  unfold Obligations.EnvMayAnswerAnything
  intro s c data wc items noInt inFlight
  refine ⟨?_, fun n held noMoves noPortWord noReset => ?_⟩
  · rw [envStep_answer noInt inFlight, Bool.decide_or]
    rfl
  · obtain ⟨turns, moves, runs⟩ := Stalled.run ⟨held, noInt, .inr noMoves, noPortWord, noReset⟩ n
    exact ⟨_, runs, rfl, rfl⟩

end Sys2Proof.Machine
end

section
/-! PROOFS. When the operations of the host command port are refused (R37, R130, R150, R277, R310), the order of primitives
(R137), and the buffer checks (R43, R63). -/

namespace Sys2Proof.Machine

/-! The checks of a blocking operation, each where those before it pass (log entry 13). -/

/-- R107: the seven blocking operations. -/
def Blocking (i : Instr) : Prop :=
  i = .startCondition ∨ (∃ a d, i = .addressTx a d) ∨ (∃ b, i = .byteWrite b) ∨ (∃ k, i = .byteReadAckNack k) ∨
    i = .stopCondition ∨ (∃ p n a r, i = .masterSend p n a r) ∨ (∃ p n a r, i = .masterReceive p n a r)

theorem primitive_refused {operandOk inOrder : Bool} {act : State → Out} {s : State} {r : Refusal}
    (refuses : blockingRefusal s = some r) : primitive operandOk inOrder act s = .refused r := by
  rw [primitive, refuses]

/-- The two blocking transactions begin with one check. -/
theorem exec_transaction_refused {i : Instr} {buf : Ptr} {len : Len} {a : Byte} {rep : Bool} {s : State} {r : Refusal}
    (transaction : i = .masterSend buf len a rep ∨ i = .masterReceive buf len a rep)
    (refuses : transactionRefusal buf len a s = some r) : exec i s = .refused r := by
  rcases transaction with rfl | rfl
  · change execMasterSend buf len a rep s = _
    rw [execMasterSend, refuses]
  · change execMasterReceive buf len a rep s = _
    rw [execMasterReceive, refuses]

theorem transactionRefusal_of_blocking {buf : Ptr} {len : Len} {a : Byte} {s : State} {r : Refusal}
    (refuses : blockingRefusal s = some r) : transactionRefusal buf len a s = some r := by
  rw [transactionRefusal, refuses]

theorem exec_blocking_refused {i : Instr} {s : State} {r : Refusal} (blocking : Blocking i)
    (refuses : blockingRefusal s = some r) : exec i s = .refused r := by
  rcases blocking with rfl | ⟨a, d, rfl⟩ | ⟨b, rfl⟩ | ⟨k, rfl⟩ | rfl | ⟨p, n, a, rep, rfl⟩ | ⟨p, n, a, rep, rfl⟩
  · change execStartCondition s = _; exact primitive_refused refuses
  · change execAddressTx a d s = _; exact primitive_refused refuses
  · change execByteWrite b s = _; exact primitive_refused refuses
  · change execByteReadAckNack k s = _; exact primitive_refused refuses
  · change execStopCondition s = _; exact primitive_refused refuses
  · exact exec_transaction_refused (.inl rfl) (transactionRefusal_of_blocking refuses)
  · exact exec_transaction_refused (.inr rfl) (transactionRefusal_of_blocking refuses)

/-- Settles O25: each reason is `blockingRefusal`'s where the checks before it pass, and every blocking operation makes
those checks first. -/
theorem blockingOperationsRefused : Obligations.BlockingOperationsRefused := by
  unfold Obligations.BlockingOperationsRefused
  intro s i blocking
  have refused {r : Refusal} : blockingRefusal s = some r → exec i s = .refused r := exec_blocking_refused blocking
  refine ⟨fun en => refused ?_, fun ⟨en, inside⟩ => refused ?_, fun ⟨en, noHandler, noDelivery, slave⟩ => refused ?_,
    fun ⟨en, noHandler, noDelivery, master, busy⟩ => refused ?_,
    fun ⟨en, noHandler, noDelivery, master, ready, ie, gie⟩ => refused ?_⟩
  · simp [blockingRefusal, en]
  · have inCallback : s.inCallback = true := by
      simpa [State.inCallback, Option.isSome_iff_ne_none] using inside
    simp [blockingRefusal, en, inCallback]
  · simp [blockingRefusal, State.inCallback, en, noHandler, noDelivery, slave]
  · simp [blockingRefusal, State.inCallback, State.busy, en, noHandler, noDelivery, master, busy]
  · simp [blockingRefusal, State.inCallback, State.busy, State.handlerCouldRun, en, noHandler, noDelivery, master, ready,
      ie, gie]

/-! The checks of a buffer (R63, R43). -/

theorem bufferRefusal_bufferRange {buf : Ptr} {len : Len} (someBytes : len ≠ 0#16)
    (outside : buf = 0#16 ∨ 65536 < buf.toNat + len.toNat) : bufferRefusal buf len = some .bufferRange := by
  have notInRange : bufferInRange buf len = false := by
    rcases outside with isNull | wraps
    · simp [bufferInRange, someBytes, isNull, null]
    · simp [bufferInRange, someBytes, wraps]
  simp [bufferRefusal, notInRange]

theorem bufferRefusal_overlaps {buf : Ptr} {len : Len} (notNull : buf ≠ 0#16)
    (range : buf.toNat + len.toNat ≤ 65536)
    (overlaps : ∃ r : Reg, buf.toNat ≤ r.address ∧ r.address < buf.toNat + len.toNat) :
    bufferRefusal buf len = some .bufferOverlapsRegisters := by
  have inRange : bufferInRange buf len = true := by simp [bufferInRange, null, notNull, range]
  simp [bufferRefusal, inRange, bufferOverlaps_iff.2 overlaps]

/-! The blocking transactions (R151, R152). -/

theorem transactionRefusal_of_allowed {buf : Ptr} {len : Len} {a : Byte} {s : State} (allowed : BlockingAllowed s)
    (range : a.toNat ≤ 0x7F) (fits : BufferFits buf len) (order : s.seq ≠ .started) :
    transactionRefusal buf len a s = none :=
  transactionRefusal_none.2
    ⟨allowed.refusal_none, sevenBit_iff.2 range, bufferFits_iff.1 fits, State.startOpen_iff.2 order⟩

theorem exec_masterSend {buf : Ptr} {len : Len} {a : Byte} {s : State} (allowed : BlockingAllowed s)
    (range : a.toNat ≤ 0x7F) (fits : BufferFits buf len) (order : s.seq ≠ .started) (rep : Bool) :
    exec (.masterSend buf len a rep) s =
      .next (((cmdStart false s).sequence .closed).hold (.sendStart buf len (addr7 a) rep)) := by
  change execMasterSend buf len a rep s = _
  rw [execMasterSend, transactionRefusal_of_allowed allowed range fits order]

theorem exec_masterReceive {buf : Ptr} {len : Len} {a : Byte} {s : State} (allowed : BlockingAllowed s)
    (range : a.toNat ≤ 0x7F) (fits : BufferFits buf len) (order : s.seq ≠ .started) (rep : Bool) :
    exec (.masterReceive buf len a rep) s =
      .next (((cmdStart false s).sequence .closed).hold (.receiveStart buf len (addr7 a) rep)) := by
  change execMasterReceive buf len a rep s = _
  rw [execMasterReceive, transactionRefusal_of_allowed allowed range fits order]

theorem transactionRefusal_addressRange {buf : Ptr} {len : Len} {a : Byte} {s : State} (allowed : BlockingAllowed s)
    (above : 0x7F < a.toNat) : transactionRefusal buf len a s = some .addressRange := by
  simp [transactionRefusal, allowed.refusal_none, sevenBit_eq_false above]

theorem transactionRefusal_buffer {buf : Ptr} {len : Len} {a : Byte} {s : State} {r : Refusal}
    (allowed : BlockingAllowed s) (range : a.toNat ≤ 0x7F) (refuses : bufferRefusal buf len = some r) :
    transactionRefusal buf len a s = some r := by
  simp [transactionRefusal, allowed.refusal_none, sevenBit_iff.2 range, refuses]

theorem transactionRefusal_outOfSequence {buf : Ptr} {len : Len} {a : Byte} {s : State} (allowed : BlockingAllowed s)
    (range : a.toNat ≤ 0x7F) (fits : BufferFits buf len) (started : s.seq = .started) :
    transactionRefusal buf len a s = some .outOfSequence := by
  simp [transactionRefusal, allowed.refusal_none, sevenBit_iff.2 range, bufferFits_iff.1 fits, State.startOpen, started]

/-- Settles O26: accepted by `exec_masterSend` and `exec_masterReceive`; the three refusals of the operands by the check
that each fails. -/
theorem blockingTransactionsStart : Obligations.BlockingTransactionsStart := by
  unfold Obligations.BlockingTransactionsStart
  refine fun s i buf len a rep allowed => ⟨fun range fits order => ?_, fun transaction => ?_⟩
  · exact ⟨exec_masterSend allowed range fits order rep, exec_masterReceive allowed range fits order rep⟩
  · refine ⟨fun above => ?_, fun ⟨range, someBytes, outside⟩ => ?_, fun ⟨range, notNull, inside, overlaps⟩ => ?_⟩
    · exact exec_transaction_refused transaction (transactionRefusal_addressRange allowed above)
    · exact exec_transaction_refused transaction
        (transactionRefusal_buffer allowed range (bufferRefusal_bufferRange someBytes outside))
    · exact exec_transaction_refused transaction
        (transactionRefusal_buffer allowed range (bufferRefusal_overlaps notNull inside overlaps))

/-! The asynchronous entry points (R185, R210). -/

theorem exec_asyncEntry {i : Instr} {buf : Ptr} {len : Len} {a : Byte} {rep : Bool}
    (entry : i = .masterSendAsync buf len a rep ∨ i = .masterReceiveAsync buf len a rep) (s : State) :
    ∃ accepted, exec i s = asyncEntry buf len a accepted s := by
  rcases entry with rfl | rfl
  · exact ⟨_, exec_masterSendAsync buf len a rep s⟩
  · exact ⟨_, exec_masterReceiveAsync buf len a rep s⟩

theorem asyncEntry_refused {buf : Ptr} {len : Len} {a : Byte} {accepted s : State} {r : Refusal}
    (refuses : entryRefusal a s = some r) : asyncEntry buf len a accepted s = .refused r := by
  rw [asyncEntry, refuses]

theorem asyncEntry_buffer {buf : Ptr} {len : Len} {a : Byte} {accepted s : State} {r : Refusal}
    (allowed : EntryAllowed a s) (ready : s.inst.state = .ready) (someBytes : len ≠ 0#16)
    (refuses : bufferRefusal buf len = some r) : asyncEntry buf len a accepted s = .refused r := by
  have goesOn : (s.busy || decide (len = 0#16)) = false := by simp [State.busy, ready, someBytes]
  simp [asyncEntry, allowed.refusal_none, goesOn, refuses]

/-- Settles O32: both entry points are `asyncEntry`, whose checks come in the order of the clauses. -/
theorem asyncEntryRefused : Obligations.AsyncEntryRefused := by
  unfold Obligations.AsyncEntryRefused
  refine ⟨⟨rfl, rfl, rfl, rfl, rfl, rfl⟩, fun s i buf len a rep entry => ?_⟩
  obtain ⟨accepted, runs⟩ := exec_asyncEntry entry s
  rw [runs]
  refine ⟨fun en => asyncEntry_refused ?_, fun ⟨en, slave⟩ => asyncEntry_refused ?_,
    fun ⟨en, master, above⟩ => asyncEntry_refused ?_, fun ⟨allowed, ignored⟩ => asyncEntry_ignored allowed ignored,
    fun ⟨allowed, ready, someBytes, outside⟩ =>
      asyncEntry_buffer allowed ready someBytes (bufferRefusal_bufferRange someBytes outside),
    fun ⟨allowed, ready, notNull, inside, overlaps⟩ =>
      asyncEntry_buffer allowed ready ?_ (bufferRefusal_overlaps notNull inside overlaps)⟩
  · simp [entryRefusal, en]
  · simp [entryRefusal, en, slave]
  · simp [entryRefusal, en, master, sevenBit_eq_false above]
  · rintro rfl
    obtain ⟨r, above, below⟩ := overlaps
    exact absurd (above.trans_lt below) (lt_irrefl _)

/-! The explicit closes (R194, R219, R312). -/

theorem closeSend_admitted {s : State} : closeRefusal .busyTx s = none ↔
    s.cr.en = true ∧ (s.inst.state = .ready ∧ s.inst.cfg.role = .master ∨ s.inst.state = .busyTx ∧ s.dead = true) :=
  closeRefusal_none nofun

theorem closeReceive_admitted {s : State} : closeRefusal .busyRx s = none ↔
    s.cr.en = true ∧ (s.inst.state = .ready ∧ s.inst.cfg.role = .master ∨ s.inst.state = .busyRx ∧ s.dead = true) :=
  closeRefusal_none nofun

theorem exec_closeSend {s : State} (admitted : closeRefusal .busyTx s = none) :
    exec .closeSend s = .next (closeSendOp s) := by
  change execCloseSend s = _
  rw [execCloseSend, admitted]

theorem exec_closeReceive {s : State} (admitted : closeRefusal .busyRx s = none) :
    exec .closeReceive s = .next (closeReceiveOp s) := by
  change execCloseReceive s = _
  rw [execCloseReceive, admitted]

theorem exec_closeSend_refused {s : State} {r : Refusal} (refuses : closeRefusal .busyTx s = some r) :
    exec .closeSend s = .refused r := by
  change execCloseSend s = _
  rw [execCloseSend, refuses]

theorem exec_closeReceive_refused {s : State} {r : Refusal} (refuses : closeRefusal .busyRx s = some r) :
    exec .closeReceive s = .refused r := by
  change execCloseReceive s = _
  rw [execCloseReceive, refuses]

theorem closeRefusal_notEnabled {s : State} (own : BusyState) (en : s.cr.en = false) :
    closeRefusal own s = some .notEnabled := by
  simp [closeRefusal, en]

theorem closeRefusal_roleMismatch {s : State} (own : BusyState) (en : s.cr.en = true)
    (ready : s.inst.state = .ready) (slave : s.inst.cfg.role = .slave) :
    closeRefusal own s = some .roleMismatch := by
  simp [closeRefusal, en, ready, slave]

/-- R194: a close of the side that is not busy. -/
theorem closeRefusal_wrongSide {s : State} {own other : BusyState} (en : s.cr.en = true)
    (busy : s.inst.state = other) (notReady : other ≠ .ready) (notOwn : other ≠ own) :
    closeRefusal own s = some .closeWrongSide := by
  simp [closeRefusal, en, busy, notReady, notOwn]

/-- R312: a close under a live transaction. -/
theorem closeRefusal_live {s : State} {own : BusyState} (en : s.cr.en = true) (busy : s.inst.state = own)
    (notReady : own ≠ .ready) (live : s.dead = false) : closeRefusal own s = some .liveTransactionMutation := by
  simp [closeRefusal, en, busy, notReady, live]

/-- Settles O33: admitted by `closeSend_admitted` and `closeReceive_admitted`; each refusal by its own condition. -/
theorem explicitClose : Obligations.ExplicitClose := by
  unfold Obligations.ExplicitClose
  intro s
  refine ⟨fun en => ⟨fun mayClose => exec_closeSend (closeSend_admitted.2 ⟨en, mayClose⟩),
      fun mayClose => exec_closeReceive (closeReceive_admitted.2 ⟨en, mayClose⟩)⟩, fun en => ?_,
    fun ⟨en, ready, slave⟩ => ?_, fun ⟨en, tx⟩ => ?_, fun ⟨en, rx⟩ => ?_, fun ⟨en, tx, live⟩ => ?_,
    fun ⟨en, rx, live⟩ => ?_⟩
  · exact ⟨exec_closeSend_refused (closeRefusal_notEnabled _ en),
      exec_closeReceive_refused (closeRefusal_notEnabled _ en)⟩
  · exact ⟨exec_closeSend_refused (closeRefusal_roleMismatch _ en ready slave),
      exec_closeReceive_refused (closeRefusal_roleMismatch _ en ready slave)⟩
  · exact exec_closeReceive_refused (closeRefusal_wrongSide en tx nofun nofun)
  · exact exec_closeSend_refused (closeRefusal_wrongSide en rx nofun nofun)
  · exact exec_closeSend_refused (closeRefusal_live en tx nofun live)
  · exact exec_closeReceive_refused (closeRefusal_live en rx nofun live)

/-- Settles O34: a close leaves a READY instance, so in the master role it is admitted again, and what it writes is written
already. -/
theorem closeIsIdempotent : Obligations.CloseIsIdempotent := by
  unfold Obligations.CloseIsIdempotent
  refine fun s t master => ⟨fun closes => ?_, fun closes => ?_⟩
  · obtain ⟨admitted, rfl⟩ := execCloseSend_cases closes
    exact exec_closeSend (closeSend_admitted.2 ⟨(closeSend_admitted.1 admitted).1, .inl ⟨rfl, master⟩⟩)
  · obtain ⟨admitted, rfl⟩ := execCloseReceive_cases closes
    exact exec_closeReceive (closeReceive_admitted.2 ⟨(closeReceive_admitted.1 admitted).1, .inl ⟨rfl, master⟩⟩)

/-! The order of primitives (R137). -/

theorem exec_startCondition_outOfSequence {s : State} (allowed : BlockingAllowed s) (started : s.seq = .started) :
    exec .startCondition s = .refused .outOfSequence := by
  change execStartCondition s = _
  rw [execStartCondition, primitive_outOfSequence allowed rfl (by simp [State.startOpen, started])]

theorem exec_addressTx_addressRange {s : State} {a : Byte} (allowed : BlockingAllowed s) (above : 0x7F < a.toNat)
    (d : Dir) : exec (.addressTx a d) s = .refused .addressRange := by
  change execAddressTx a d s = _
  simp [execAddressTx, primitive, allowed.refusal_none, sevenBit_eq_false above]

theorem exec_addressTx_outOfSequence {s : State} {a : Byte} (allowed : BlockingAllowed s) (range : a.toNat ≤ 0x7F)
    (notStarted : s.seq ≠ .started) (d : Dir) : exec (.addressTx a d) s = .refused .outOfSequence := by
  change execAddressTx a d s = _
  rw [execAddressTx, primitive_outOfSequence allowed (sevenBit_iff.2 range) (decide_eq_false notStarted)]

theorem exec_byteWrite_outOfSequence {s : State} (allowed : BlockingAllowed s) (notWriting : s.seq ≠ .writing)
    (b : Byte) : exec (.byteWrite b) s = .refused .outOfSequence := by
  change execByteWrite b s = _
  rw [execByteWrite, primitive_outOfSequence allowed rfl (decide_eq_false notWriting)]

/-! Where the order stands after an operation that answered. -/

/-- R135: what a read leaves open, by its operand. -/
theorem execByteReadAckNack_seq {k : Bool} {s t : State} (answers : exec (.byteReadAckNack k) s = .next t) :
    t.seq = if k then .reading else .readDone := by
  have answers : execByteReadAckNack k s = .next t := answers
  obtain ⟨-, -, -, acts⟩ := primitive_cases answers
  cases acts
  rfl

theorem execStopCondition_seq {s t : State} (answers : exec .stopCondition s = .next t) : t.seq = .closed := by
  have answers : execStopCondition s = .next t := answers
  obtain ⟨-, -, -, acts⟩ := primitive_cases answers
  cases acts
  rfl

theorem asyncEntry_seq {buf : Ptr} {len : Len} {a : Byte} {accepted s t : State} (closed : accepted.seq = .closed)
    (answers : asyncEntry buf len a accepted s = .next t) :
    t.seq = if s.inst.state = .ready ∧ len ≠ 0#16 then .closed else s.seq := by
  unfold asyncEntry at answers
  split at answers
  · cases answers
  · split_ifs at answers with ignored
    · cases answers
      rw [if_neg]
      rintro ⟨ready, someBytes⟩
      simp [State.busy, ready, someBytes] at ignored
    · split at answers
      · cases answers
      · cases answers
        rw [closed, if_pos]
        simpa [State.busy] using ignored

theorem transaction_seq {i : Instr} {buf : Ptr} {len : Len} {a : Byte} {rep : Bool} {s t : State}
    (transaction : i = .masterSend buf len a rep ∨ i = .masterReceive buf len a rep)
    (answers : exec i s = .next t) : t.seq = .closed := by
  cases check : transactionRefusal buf len a s with
  | some r =>
    rw [exec_transaction_refused transaction check] at answers
    cases answers
  | none =>
    rcases transaction with rfl | rfl
    · simp only [exec, execMasterSend, check, Host.Outcome.next.injEq] at answers
      exact answers ▸ rfl
    · simp only [exec, execMasterReceive, check, Host.Outcome.next.injEq] at answers
      exact answers ▸ rfl

theorem execInit_seq {speed : BitVec 32} {a : Byte} {r : Role} {s t : State}
    (answers : exec (.init speed a r) s = .next t) : t.seq = s.seq := by
  obtain ⟨-, -, -, rfl⟩ := execInit_cases answers
  cases r <;> rfl

/-- Settles O24: where the order stands after each answer, by the lemma of the operation; outside its place each primitive
is refused by its own check. -/
theorem primitiveOrder : Obligations.PrimitiveOrder := by
  unfold Obligations.PrimitiveOrder
  refine ⟨fun s t int answers => ?_, fun s t => execStopCondition_seq, fun s t k => execByteReadAckNack_seq,
    fun s t i buf len a rep => ?_, fun s allowed => ?_⟩
  · refine ⟨fun held => ?_, fun held => ?_, fun held => ?_, fun held => ?_⟩
    · rw [hostTurn_startWait held int] at answers
      cases answers
      simp only [startSequence, isStartSent_iff]
    · rw [hostTurn_addressWait held int] at answers
      cases answers
      rfl
    · rw [hostTurn_addressWait held int] at answers
      cases answers
      rfl
    · rcases held with held | held
      · rw [hostTurn_writeWait held int] at answers
        cases answers
        rfl
      · rw [hostTurn_readWait held int] at answers
        cases answers
        rfl
  · refine ⟨fun entry answers => ?_, transaction_seq, fun speed role => execInit_seq⟩
    rcases entry with rfl | rfl
    · exact asyncEntry_seq (accepted := acceptSend buf len (addr7 a) rep s) rfl answers
    · exact asyncEntry_seq (accepted := acceptReceive buf len (addr7 a) rep s) rfl answers
  · refine ⟨exec_startCondition_outOfSequence allowed, fun buf len a rep started range fits => ?_,
      fun a d above => exec_addressTx_addressRange allowed above d,
      fun a d range notStarted => exec_addressTx_outOfSequence allowed range notStarted d,
      fun b notWriting => exec_byteWrite_outOfSequence allowed notWriting b, fun k closed => ?_, fun closed => ?_⟩
    · have refuses := transactionRefusal_outOfSequence allowed range fits started
      exact ⟨exec_transaction_refused (.inl rfl) refuses, exec_transaction_refused (.inr rfl) refuses⟩
    · refine exec_byteReadAckNack_outOfSequence allowed (Bool.eq_false_iff.2 fun opened => ?_)
      obtain ⟨reading, phase⟩ := State.readOpen_iff.1 opened
      rcases closed with notReading | ⟨notSlar, notRxd⟩
      · exact notReading reading
      · exact (isReadPhase_iff.1 phase).elim notSlar notRxd
    · refine exec_stopCondition_outOfSequence allowed (Bool.eq_false_iff.2 fun opened => ?_)
      obtain ⟨owned, notGiven, notStarted, notFailed⟩ := State.stopOpen_iff.1 opened
      rcases closed with notOwned | given | started | failed
      · simp [notOwned] at owned
      · simp [given] at notGiven
      · exact notStarted started
      · exact notFailed failed

end Sys2Proof.Machine
end

section
/-! PROOFS. What HOST, held in the blocking transactor, does once `CR.INT = 1` (R151, R152, R278), one equation per place. -/

namespace Sys2Proof.Machine

/-! START and the address phase. -/

theorem hostTurn_sendStart {s : State} {buf : Ptr} {len : Len} {a : Addr7} {rep : Bool}
    (held : s.host = .sendStart buf len a rep) (int : s.cr.int = true) (seen : isStartSent s.sr.code = true) :
    hostTurn s = .next
      (({ s with dr := addrByteOf a .write }.command s.cr.ea false false s.cr.ie (.tx (addrByteOf a .write))).hold
        (.sendAddress buf len rep)) := by
  rw [hostTurn_of_held (by simp [held]) int]
  simp [hostResume, held, seen, cmdXmit_of_int int]

theorem hostTurn_receiveStart {s : State} {buf : Ptr} {len : Len} {a : Addr7} {rep : Bool}
    (held : s.host = .receiveStart buf len a rep) (int : s.cr.int = true) (seen : isStartSent s.sr.code = true) :
    hostTurn s = .next
      (({ s with dr := addrByteOf a .read }.command s.cr.ea false false s.cr.ie (.tx (addrByteOf a .read))).hold
        (.receiveAddress buf len rep)) := by
  rw [hostTurn_of_held (by simp [held]) int]
  simp [hostResume, held, seen, cmdXmit_of_int int]

theorem hostTurn_sendAddress {s : State} {buf : Ptr} {len : Len} {rep : Bool} (held : s.host = .sendAddress buf len rep)
    (int : s.cr.int = true) (acked : s.sr.code = Status.slawAck) : hostTurn s = sendNext buf len rep s := by
  rw [hostTurn_of_held (by simp [held]) int]
  simp [hostResume, held, acked, addressAck]

theorem hostTurn_receiveAddress {s : State} {buf : Ptr} {len : Len} {rep : Bool}
    (held : s.host = .receiveAddress buf len rep) (int : s.cr.int = true) (acked : s.sr.code = Status.slarAck) :
    hostTurn s = receiveNext buf len rep s := by
  rw [hostTurn_of_held (by simp [held]) int]
  simp [hostResume, held, acked, addressAck]

/-- R151, R152: a completion of START that is no START code. -/
theorem hostTurn_start_failed {s : State} {buf : Ptr} {len : Len} {a : Addr7} {rep : Bool}
    (held : s.host = .sendStart buf len a rep ∨ s.host = .receiveStart buf len a rep) (int : s.cr.int = true)
    (unseen : isStartSent s.sr.code = false) :
    hostTurn s = failTransaction .start (s.sequence .startFailed) := by
  rcases held with held | held <;> rw [hostTurn_of_held (by simp [held]) int] <;> simp [hostResume, held, unseen]

/-- R151, R152: a completion of the address that is not its ACK code. -/
theorem hostTurn_address_failed {s : State} {buf : Ptr} {len : Len} {rep : Bool}
    (held : s.host = .sendAddress buf len rep ∧ s.sr.code ≠ Status.slawAck ∨
      s.host = .receiveAddress buf len rep ∧ s.sr.code ≠ Status.slarAck) (int : s.cr.int = true) :
    hostTurn s = failTransaction .addrNack s := by
  rcases held with ⟨held, other⟩ | ⟨held, other⟩ <;> rw [hostTurn_of_held (by simp [held]) int] <;>
    simp [hostResume, held, addressAck, other]

/-! The bytes, and the end. -/

theorem hostTurn_sendByte {s : State} {buf : Ptr} {len : Len} {rep : Bool} (held : s.host = .sendByte buf len rep)
    (int : s.cr.int = true) : hostTurn s = sendNext buf len rep s := by
  rw [hostTurn_of_held (by simp [held]) int]
  simp [hostResume, held]

theorem hostTurn_receiveByte {s : State} {buf : Ptr} {len : Len} {rep : Bool}
    (held : s.host = .receiveByte buf len rep) (int : s.cr.int = true) :
    hostTurn s = receiveNext (buf + 1#16) (len - 1#16) rep (s.storeAt buf s.dr) := by
  rw [hostTurn_of_held (by simp [held]) int]
  simp [hostResume, held]

theorem sendNext_end (buf : Ptr) (rep : Bool) (s : State) :
    sendNext buf 0#16 rep s = .next (finishTransaction rep s) := by
  simp [sendNext]

theorem sendNext_byte {len : Len} {s : State} (someLeft : len ≠ 0#16) (int : s.cr.int = true) (buf : Ptr)
    (rep : Bool) : sendNext buf len rep s = .next
      (({ s with dr := s.byteAt buf }.command s.cr.ea false false s.cr.ie (.tx (s.byteAt buf))).hold
        (.sendByte (buf + 1#16) (len - 1#16) rep)) := by
  simp [sendNext, someLeft, cmdXmit_of_int int]

theorem receiveNext_end (buf : Ptr) (rep : Bool) (s : State) :
    receiveNext buf 0#16 rep s = .next (finishTransaction rep s) := by
  simp [receiveNext]

theorem receiveNext_byte {len : Len} (someLeft : len ≠ 0#16) (buf : Ptr) (rep : Bool) (s : State) :
    receiveNext buf len rep s = .next ((cmdArm (ackFor len) s).hold (.receiveByte buf len rep)) := by
  simp [receiveNext, someLeft]

/-- Settles O29: a START code and the ACK code of the address are what the two waits look for; after any other code the
error is raised and HOST is idle. -/
theorem blockingFailures : Obligations.BlockingFailures := by
  unfold Obligations.BlockingFailures
  refine fun s buf len a rep int => ⟨fun held notStart notRstart => ?_, fun held => hostTurn_address_failed held int⟩
  have unseen : isStartSent s.sr.code = false :=
    Bool.eq_false_iff.2 fun seen => (isStartSent_iff.1 seen).elim notStart notRstart
  exact hostTurn_start_failed held int unseen

/-- Settles O30: each place by its equation; where no byte is left, the end, by whether a repeated start was asked for. -/
theorem transactorSteps : Obligations.TransactorSteps := by
  unfold Obligations.TransactorSteps
  intro s buf len rep int ended
  have atEnd : finishTransaction rep s = { ended with host := .idle } := rfl
  refine ⟨fun a seen => ⟨fun held => ?_, fun held => ?_⟩, fun held acked => ⟨fun someLeft => ?_, fun noneLeft => ?_⟩,
    fun held acked => ⟨fun someLeft => ?_, fun noneLeft => ?_⟩, fun held someLeft => ?_, fun held => ?_, fun held => ?_,
    fun held notLast => ?_, fun held => ?_, fun held => ?_⟩
  · exact hostTurn_sendStart held int (isStartSent_iff.2 seen)
  · exact hostTurn_receiveStart held int (isStartSent_iff.2 seen)
  · rw [hostTurn_sendAddress held int acked]
    exact sendNext_byte someLeft int buf rep
  · rw [hostTurn_sendAddress held int acked, noneLeft, sendNext_end, atEnd]
  · rw [hostTurn_receiveAddress held int acked]
    exact receiveNext_byte someLeft buf rep s
  · rw [hostTurn_receiveAddress held int acked, noneLeft, receiveNext_end, atEnd]
  · rw [hostTurn_sendByte held int]
    exact sendNext_byte someLeft int buf rep
  · rw [hostTurn_sendByte held int]
    exact sendNext_end buf true s
  · rw [hostTurn_sendByte held int]
    exact sendNext_end buf false s
  · have someLeft : len - 1#16 ≠ 0#16 := fun last => notLast (by bv_omega)
    rw [hostTurn_receiveByte held int]
    exact receiveNext_byte someLeft _ rep _
  · rw [hostTurn_receiveByte held int]
    exact receiveNext_end _ true _
  · rw [hostTurn_receiveByte held int]
    exact receiveNext_end _ false _

end Sys2Proof.Machine
end

section
/-! PROOFS. The slave data operations (R243, R244) inside and outside the callback of their event, what breaks the slave
callback's contract (R238, R240, R245), and the two outputs (R276 to R278). -/

namespace Sys2Proof.Machine

/-! The slave data operations. -/

theorem execSlaveSendByte_outOfSequence {s : State} (en : s.cr.en = true) (other : s.delivering ≠ some .dataReq)
    (b : Byte) : execSlaveSendByte b s = .refused .outOfSequence := by
  simp [execSlaveSendByte, en, other]

theorem execSlaveReadByte_outOfSequence {s : State} (en : s.cr.en = true)
    (other : s.delivering ≠ some .dataRcv ∨ s.cr.int = false) (k : Bool) :
    execSlaveReadByte k s = .refused .outOfSequence := by
  rcases other with other | noInt
  · simp [execSlaveReadByte, en, other]
  · simp [execSlaveReadByte, en, noInt]

/-- Settles O35: inside the callback of its event each operation is its command, where `CR.INT` decides; elsewhere, and with
`CR.EN = 0`, it is refused. -/
theorem slaveDataOperations : Obligations.SlaveDataOperations := by
  unfold Obligations.SlaveDataOperations
  intro s b k
  refine ⟨fun ⟨en, int, request⟩ => ?_, fun ⟨en, int, received⟩ => execSlaveReadByte_of_delivering en received int,
    fun en => ⟨?_, ?_⟩, fun ⟨en, other⟩ => execSlaveSendByte_outOfSequence en other b,
    fun ⟨en, other⟩ => execSlaveReadByte_outOfSequence en other k, fun ⟨en, noInt, request⟩ => ?_⟩
  · exact (execSlaveSendByte_of_delivering en request).trans (cmdXmit_of_int int)
  · simp [exec, execSlaveSendByte, en]
  · simp [exec, execSlaveReadByte, en]
  · exact (execSlaveSendByte_of_delivering en request).trans (cmdXmit_of_not_int noInt)

/-! A delivery whose callback does not end. -/

theorem notify_of_callback_fault {ev : Event} {s : State} {r : Fault}
    (faults : runCallback s.nextCallback (beginDelivery ev s) = .fault r) : notify ev s = .fault r := by
  rw [notify, faults, andThen_fault]

theorem notify_of_callback_refused {ev : Event} {s : State} {r : Refusal}
    (refuses : runCallback s.nextCallback (beginDelivery ev s) = .refused r) : notify ev s = .refused r := by
  rw [notify, refuses, andThen_refused]

/-- R245: a callback that never returns, whatever it did before. -/
theorem notify_noReturn {ev : Event} {s t : State} {ops rest : List CallbackOp}
    (callback : s.nextCallback = ops ++ .noReturn :: rest) (before : runCallback ops (beginDelivery ev s) = .next t) :
    notify ev s = .fault .callbackContract := by
  refine notify_of_callback_fault ?_
  rw [callback, runCallback_append, before]
  rfl

theorem deliverData_of_fault {ev : Event} {s : State} {r : Fault} (faults : notify ev s = .fault r) :
    deliverData ev s = .fault r := by
  rw [deliverData, faults, andThen_fault]

theorem deliverData_of_refused {ev : Event} {s : State} {r : Refusal} (refuses : notify ev s = .refused r) :
    deliverData ev s = .refused r := by
  rw [deliverData, refuses, andThen_refused]

/-- R238, R240: a data callback that does nothing leaves the controller unreleased. -/
theorem deliverData_quiet {ev : Event} {s : State} (int : s.cr.int = true) (quiet : QuietCallback s) :
    deliverData ev s = .fault .callbackContract := by
  rw [deliverData, notify_delivered quiet, andThen_next]
  exact if_pos int

/-- R238, R240, R248: the four data arms, by the role. -/
theorem exec_dataArm {i : Instr} (arm : i = .ssRxdAck ∨ i = .ssRxdNack ∨ i = .ssSlarAck ∨ i = .ssTxdAck) {s : State}
    (slave : s.inst.cfg.role = .slave) : ∃ ev, exec i s = deliverData ev s := by
  rcases arm with rfl | rfl | rfl | rfl <;> exact ⟨_, if_pos slave⟩

theorem runCallback_cons {op : CallbackOp} {s t : State} (answers : runCallbackOp op s = .next t)
    (rest : List CallbackOp) : runCallback (op :: rest) s = runCallback rest t := by
  rw [runCallback, answers, andThen_next]

/-- R238, R244: what the callback's first `SlaveReadByte` leaves inside its delivery, CR.INT = 0. -/
theorem runCallbackOp_slaveReadByte {s : State} (en : s.cr.en = true) (int : s.cr.int = true) (k : Bool) :
    runCallbackOp (.slaveReadByte k) (beginDelivery .dataRcv s) =
      .next ({ beginDelivery .dataRcv s with ret := some (.byte s.dr) }.command k false false s.cr.ie .listen) :=
  execSlaveReadByte_of_delivering en rfl int

/-- R240, R243: what the callback's first `SlaveSendByte` leaves inside its delivery, CR.INT = 0. -/
theorem runCallbackOp_slaveSendByte {s : State} (en : s.cr.en = true) (int : s.cr.int = true) (b : Byte) :
    runCallbackOp (.slaveSendByte b) (beginDelivery .dataReq s) =
      .next ({ beginDelivery .dataReq s with dr := b }.command s.cr.ea false false s.cr.ie (.tx b)) :=
  (execSlaveSendByte_of_delivering (s := beginDelivery .dataReq s) en rfl).trans (cmdXmit_of_int int)

/-- Settles O47: a callback that never returns by `notify_noReturn`; the second data operation by what the first one leaves,
CR.INT = 0. -/
theorem slaveContractFaults : Obligations.SlaveContractFaults := by
  unfold Obligations.SlaveContractFaults
  intro s i
  refine ⟨fun arm slave int quiet => ?_, fun arm slave rest callback => ?_,
    fun arm slave en int k rest callback => ?_, fun arm slave en int b rest callback => ?_,
    fun arm slave en int b c callback => ?_, fun arm slave en int k l callback => ?_, fun arm master => ?_⟩
  · obtain ⟨ev, delivers⟩ := exec_dataArm arm slave
    rw [delivers, deliverData_quiet int quiet]
  · have atOnce (ev : Event) : notify ev s = .fault .callbackContract := notify_noReturn (ops := []) callback rfl
    have rearmed (ev : Event) : notify ev (cmdRearm s) = .fault .callbackContract :=
      notify_noReturn (ops := []) callback rfl
    rcases arm with arm | arm | arm | arm | rfl | rfl
    · obtain ⟨ev, delivers⟩ := exec_dataArm (.inl arm) slave
      rw [delivers, deliverData_of_fault (atOnce ev)]
    · obtain ⟨ev, delivers⟩ := exec_dataArm (.inr (.inl arm)) slave
      rw [delivers, deliverData_of_fault (atOnce ev)]
    · obtain ⟨ev, delivers⟩ := exec_dataArm (.inr (.inr (.inl arm))) slave
      rw [delivers, deliverData_of_fault (atOnce ev)]
    · obtain ⟨ev, delivers⟩ := exec_dataArm (.inr (.inr (.inr arm))) slave
      rw [delivers, deliverData_of_fault (atOnce ev)]
    · rw [exec_ssStopRs slave, rearmed]
    · rw [exec_ssTxdNack slave, rearmed]
  · have first := runCallback_cons (runCallbackOp_slaveReadByte en int k) []
    rw [exec_dataReceived arm slave]
    exact deliverData_of_fault (notify_noReturn (ops := [.slaveReadByte k]) callback first)
  · have first := runCallback_cons (runCallbackOp_slaveSendByte en int b) []
    rw [exec_dataRequested arm slave]
    exact deliverData_of_fault (notify_noReturn (ops := [.slaveSendByte b]) callback first)
  · rw [exec_dataRequested arm slave]
    refine deliverData_of_fault (notify_of_callback_fault ?_)
    rw [callback, runCallback_cons (runCallbackOp_slaveSendByte en int b)]
    rfl
  · rw [exec_dataReceived arm slave]
    refine deliverData_of_refused (notify_of_callback_refused ?_)
    rw [callback, runCallback_cons (runCallbackOp_slaveReadByte en int k)]
    simp [runCallback, runCallbackOp, execSlaveReadByte]
  · have notSlave : s.inst.cfg.role ≠ .slave := by simp [master]
    rcases arm with rfl | rfl | rfl | rfl | rfl | rfl | rfl <;> exact if_neg notSlave

/-- Settles O48: each callback operation is the application's operation of that name; the rest by `notify_noReturn` and
`notify_delivered`. -/
theorem outputs : Obligations.Outputs := by
  unfold Obligations.Outputs
  refine fun s => ⟨fun _ => rfl, ⟨rfl, fun _ _ => rfl⟩, fun _ _ _ _ => ⟨rfl, rfl⟩, rfl, rfl, fun _ => rfl, fun _ => rfl,
    fun _ _ _ => rfl, rfl, fun _ _ => rfl, fun _ => rfl, rfl, fun ev ops rest t callback => notify_noReturn callback,
    fun quiet => ?_, rfl, rfl⟩
  have delivers (ev : Event) : notify ev s = .next (delivered ev s) := notify_delivered quiet
  exact ⟨delivers _, delivers _, delivers _, delivers _, delivers _, delivers _, delivers _, delivers _, delivers _,
    delivers _⟩

end Sys2Proof.Machine
end

section
/-! PROOFS. What no step but the reset input's takes back (R11, R42): the observation only grows and the halt stays; and what
instructions leave alone that a step relies on (R274, R275, R325). -/

namespace Sys2Proof.Machine

/-! A property of the next state, where an outcome has one. -/

/-- The next state, if `o` is one, has the property `P`. -/
def Ensures (o : Out) (P : State → Prop) : Prop := ∀ t, o = .next t → P t

theorem ensures_next {t : State} {P : State → Prop} (holds : P t) : Ensures (.next t) P := by
  rintro _ ⟨⟩
  exact holds

theorem ensures_fault (r : Fault) (P : State → Prop) : Ensures (.fault r) P := by
  intro t faults
  simp at faults

theorem ensures_refused (r : Refusal) (P : State → Prop) : Ensures (.refused r) P := by
  intro t refuses
  simp at refuses

theorem Ensures.mono {o : Out} {P Q : State → Prop} (ensures : Ensures o P) (weaker : ∀ t, P t → Q t) :
    Ensures o Q := fun t goesOn => weaker t (ensures t goesOn)

theorem Ensures.andThen {o : Out} {k : State → Out} {P Q : State → Prop} (first : Ensures o P)
    (second : ∀ u, P u → Ensures (k u) Q) : Ensures (andThen o k) Q := by
  intro t goesOn
  obtain ⟨u, hu, ht⟩ := andThen_eq_next.1 goesOn
  exact second u (first u hu) t ht

/-- What follows sets fields that `P` becomes `Q` by. -/
theorem Ensures.andThen_next {o : Out} {f : State → State} {P Q : State → Prop} (first : Ensures o P)
    (becomes : ∀ u, P u → Q (f u)) : Ensures (Machine.andThen o fun u => .next (f u)) Q :=
  first.andThen fun u holds => ensures_next (becomes u holds)

/-- A guarded arm (R169, R248) answers under its guard alone. -/
theorem guarded_ensures {guard : Prop} [Decidable guard] {o : Out} {P : State → Prop} (under : guard → Ensures o P) :
    Ensures (if guard then o else .fault .spuriousStatus) P := by
  split
  next holds => exact under holds
  · exact ensures_fault _ _

/-! The property of each operation's next state, from what the operation can answer. -/

theorem cmdXmit_ensures {b : Byte} {s : State} {P : State → Prop}
    (sends : s.cr.int = true → P ({ s with dr := b }.command s.cr.ea false false s.cr.ie (.tx b))) :
    Ensures (cmdXmit b s) P := by
  intro t goesOn
  obtain ⟨int, rfl⟩ := cmdXmit_cases goesOn
  exact sends int

theorem writeData_ensures {b : Byte} {s : State} {P : State → Prop} (writes : P { s with dr := b }) :
    Ensures (writeData b s) P := by
  unfold writeData
  split
  · exact ensures_next writes
  · exact ensures_fault _ _

theorem primitive_ensures {operandOk inOrder : Bool} {act : State → Out} {s : State} {P : State → Prop}
    (acts : blockingRefusal s = none → Ensures (act s) P) : Ensures (primitive operandOk inOrder act s) P := by
  intro t goesOn
  obtain ⟨allowed, -, -, answers⟩ := primitive_cases goesOn
  exact acts allowed t answers

section
variable {s : State} {P : State → Prop}

theorem execStartCondition_ensures
    (starts : blockingRefusal s = none → P ((cmdStart false s).hold .startWait)) :
    Ensures (execStartCondition s) P :=
  primitive_ensures fun allowed => ensures_next (starts allowed)

theorem execAddressTx_ensures {a : Byte} {d : Dir}
    (sends : blockingRefusal s = none → ∀ b, P (({ s with dr := b }.command s.cr.ea false false s.cr.ie (.tx b)).hold
      (.addressWait d))) : Ensures (execAddressTx a d s) P :=
  primitive_ensures fun allowed =>
    (cmdXmit_ensures (P := fun t => P (t.hold (.addressWait d))) fun _ => sends allowed _).andThen_next fun _ => id

theorem execByteWrite_ensures {b : Byte}
    (sends : blockingRefusal s = none → P (({ s with dr := b }.command s.cr.ea false false s.cr.ie (.tx b)).hold
      .writeWait)) : Ensures (execByteWrite b s) P :=
  primitive_ensures fun allowed =>
    (cmdXmit_ensures (P := fun t => P (t.hold .writeWait)) fun _ => sends allowed).andThen_next fun _ => id

theorem execByteReadAckNack_ensures {k : Bool}
    (arms : blockingRefusal s = none → P (((cmdArm k s).sequence (readSequence k)).hold .readWait)) :
    Ensures (execByteReadAckNack k s) P :=
  primitive_ensures fun allowed => ensures_next (arms allowed)

theorem execStopCondition_ensures (stops : P ((cmdStop s).sequence .closed)) : Ensures (execStopCondition s) P :=
  primitive_ensures fun _ => ensures_next stops

theorem execMasterSend_ensures {buf : Ptr} {len : Len} {a : Byte} {rep : Bool}
    (starts : blockingRefusal s = none →
      P (((cmdStart false s).sequence .closed).hold (.sendStart buf len (addr7 a) rep))) :
    Ensures (execMasterSend buf len a rep s) P := by
  unfold execMasterSend
  split
  · exact ensures_refused _ _
  next passes => exact ensures_next (starts (transactionRefusal_none.1 passes).1)

theorem execMasterReceive_ensures {buf : Ptr} {len : Len} {a : Byte} {rep : Bool}
    (starts : blockingRefusal s = none →
      P (((cmdStart false s).sequence .closed).hold (.receiveStart buf len (addr7 a) rep))) :
    Ensures (execMasterReceive buf len a rep s) P := by
  unfold execMasterReceive
  split
  · exact ensures_refused _ _
  next passes => exact ensures_next (starts (transactionRefusal_none.1 passes).1)

theorem execMasterSendAsync_ensures {buf : Ptr} {len : Len} {a : Byte} {rep : Bool} (ignored : P s)
    (accepted : entryRefusal a s = none → s.inst.state = .ready → len ≠ 0#16 → bufferRefusal buf len = none →
      P (acceptSend buf len (addr7 a) rep s)) : Ensures (execMasterSendAsync buf len a rep s) P := by
  intro t goesOn
  obtain ⟨admitted, ⟨-, rfl⟩ | ⟨ready, someBytes, fits, rfl⟩⟩ := execMasterSendAsync_cases goesOn
  · exact ignored
  · exact accepted admitted ready someBytes fits

theorem execMasterReceiveAsync_ensures {buf : Ptr} {len : Len} {a : Byte} {rep : Bool} (ignored : P s)
    (accepted : entryRefusal a s = none → s.inst.state = .ready → len ≠ 0#16 → bufferRefusal buf len = none →
      P (acceptReceive buf len (addr7 a) rep s)) : Ensures (execMasterReceiveAsync buf len a rep s) P := by
  intro t goesOn
  obtain ⟨admitted, ⟨-, rfl⟩ | ⟨ready, someBytes, fits, rfl⟩⟩ := execMasterReceiveAsync_cases goesOn
  · exact ignored
  · exact accepted admitted ready someBytes fits

theorem execCloseSend_ensures (closes : closeRefusal .busyTx s = none → P (closeSendOp s)) :
    Ensures (execCloseSend s) P := by
  intro t goesOn
  obtain ⟨admitted, rfl⟩ := execCloseSend_cases goesOn
  exact closes admitted

theorem execCloseReceive_ensures (closes : closeRefusal .busyRx s = none → P (closeReceiveOp s)) :
    Ensures (execCloseReceive s) P := by
  intro t goesOn
  obtain ⟨admitted, rfl⟩ := execCloseReceive_cases goesOn
  exact closes admitted

theorem execInit_ensures {speed : BitVec 32} {a : Byte} {r : Role}
    (configures : s.inst.state = .ready → P ((s.configured speed (addr7 a) r).enabled r)) :
    Ensures (execInit speed a r s) P := by
  intro t goesOn
  obtain ⟨ready, -, -, rfl⟩ := execInit_cases goesOn
  exact configures ready

theorem execSlaveSendByte_ensures {b : Byte}
    (sends : P ({ s with dr := b }.command s.cr.ea false false s.cr.ie (.tx b))) :
    Ensures (execSlaveSendByte b s) P :=
  fun t goesOn => cmdXmit_ensures (fun _ => sends) t (execSlaveSendByte_cases goesOn).2.2

theorem execSlaveReadByte_ensures {k : Bool}
    (reads : P ({ s with ret := some (.byte s.dr) }.command k false false s.cr.ie .listen)) :
    Ensures (execSlaveReadByte k s) P := by
  intro t goesOn
  obtain ⟨-, -, -, rfl⟩ := execSlaveReadByte_cases goesOn
  exact reads

theorem execCmdXmit_ensures {ea ie : Bool} {b : Byte}
    (sends : P ({ s with dr := b }.command ea false false ie (.tx b))) : Ensures (execCmdXmit ea ie b s) P :=
  (writeData_ensures (P := fun t => P (t.command ea false false ie (.tx b))) sends).andThen_next fun _ => id

theorem armStart_ensures
    (sends : ∀ b, P ({ s with dr := b }.command s.cr.ea false false s.cr.ie (.tx b))) : Ensures (armStart s) P := by
  cases state : s.inst.state with
  | ready => rw [armStart_of_ready state]; exact ensures_fault _ _
  | busyTx => rw [armStart_of_busyTx state]; exact cmdXmit_ensures fun _ => sends _
  | busyRx => rw [armStart_of_busyRx state]; exact cmdXmit_ensures fun _ => sends _

theorem handOver_ensures
    (sends : s.canSend = true → ∀ b, P ({ s with dr := b }.command s.cr.ea false false s.cr.ie (.tx b)).advanceTx) :
    Ensures (handOver s) P := by
  intro t goesOn
  obtain ⟨canSend, -, rfl⟩ := handOver_cases goesOn
  exact sends canSend _

theorem sendNext_ensures {buf : Ptr} {len : Len} {rep : Bool} (ends : P (finishTransaction rep s))
    (sends : ∀ b h, P (({ s with dr := b }.command s.cr.ea false false s.cr.ie (.tx b)).hold h)) :
    Ensures (sendNext buf len rep s) P := by
  intro t goesOn
  obtain ⟨-, rfl⟩ | ⟨-, -, rfl⟩ := sendNext_cases goesOn
  · exact ends
  · exact sends _ _

theorem receiveNext_ensures {buf : Ptr} {len : Len} {rep : Bool} (ends : P (finishTransaction rep s))
    (arms : ∀ k h, P ((cmdArm k s).hold h)) : Ensures (receiveNext buf len rep s) P := by
  rw [receiveNext_next]
  refine ensures_next ?_
  split
  · exact ends
  · exact arms _ _

/-- R151, R152: a transaction goes on after the code it waits for, and fails after any other. -/
theorem expected_ensures {seen : Prop} [Decidable seen] {o : Out} {e : ErrorCode} (goesOn : Ensures o P)
    (fails : P ((raiseError e s).hold .idle)) : Ensures (if seen then o else failTransaction e s) P := by
  split
  · exact goesOn
  · exact ensures_next fails

/-- A word on the host command port runs an instruction, or is refused. -/
theorem issueWord_ensures {bytes : List Byte} (runs : ∀ i, Ensures (exec i s) P) : Ensures (issueWord bytes s) P := by
  unfold issueWord
  split
  · exact runs _
  · exact ensures_refused _ _
  · exact ensures_refused _ _

/-- A word on the register port runs an instruction, or is refused. -/
theorem portWordStep_ensures {bytes : List Byte} (runs : ∀ i, Ensures (exec i s) P) :
    Ensures (portWordStep bytes s) P := by
  unfold portWordStep
  split
  · exact runs _
  · exact ensures_refused _ _

theorem waitReady_ensures {rest : List AppMove} (polls : P s) (goesOn : P { s with app := rest }) :
    Ensures (waitReady rest s) P := by
  unfold waitReady
  split
  · exact ensures_next polls
  · exact ensures_next goesOn

end

/-- What every operation of a callback keeps, its delivery keeps up to its end. -/
theorem notify_ensures {ev : Event} {s : State} {P Q : State → Prop}
    (keeps : ∀ op u, P u → Ensures (runCallbackOp op u) P) (begins : P (beginDelivery ev s))
    (ends : ∀ u, P u → Q (endDelivery u)) : Ensures (notify ev s) Q := by
  intro t goesOn
  obtain ⟨u, runs, rfl⟩ := notify_cases goesOn
  exact ends u (runCallback_keeps (fun op v w holds => keeps op v holds w) begins runs)

theorem deliverData_ensures {ev : Event} {s : State} {P : State → Prop} (delivers : Ensures (notify ev s) P) :
    Ensures (deliverData ev s) P :=
  fun t goesOn => delivers t (deliverData_cases goesOn).1

/-! What grows, and what stays. -/

/-- R11, R42: from `s` to `t` the wire and the errors are only appended to, and the halt stays. -/
structure Grows (s t : State) : Prop where
  wire : s.wire <+: t.wire
  errors : s.errors <+: t.errors
  halted : s.halted = true → t.halted = true

/-- What an instruction, HOST and ENV do between two steps: `Grows`, with the handler's frame, the register port and the
state of no delivery left as they are. -/
structure Extends (s t : State) : Prop extends Grows s t where
  inHandler : t.inHandler = s.inHandler
  portWord : t.portWord = s.portWord
  delivering : s.delivering = none → t.delivering = none

/-- The fields that `Extends` speaks of. -/
def State.outside (s : State) : List WireItem × List ErrorCode × Bool × Bool × Option (List Byte) × Option Event :=
  (s.wire, s.errors, s.halted, s.inHandler, s.portWord, s.delivering)

theorem Extends.of_eq {s t : State} (same : t.outside = s.outside) : Extends s t := by
  simp only [State.outside, Prod.mk.injEq] at same
  obtain ⟨wire, errors, halted, inHandler, portWord, delivering⟩ := same
  exact ⟨⟨wire ▸ List.prefix_rfl, errors ▸ List.prefix_rfl, fun h => halted.trans h⟩, inHandler, portWord,
    fun h => delivering.trans h⟩

theorem Extends.trans {s t u : State} (first : Extends s t) (second : Extends t u) : Extends s u where
  wire := first.wire.trans second.wire
  errors := first.errors.trans second.errors
  halted h := second.halted (first.halted h)
  inHandler := second.inHandler.trans first.inHandler
  portWord := second.portWord.trans first.portWord
  delivering h := second.delivering (first.delivering h)

/-- Of two states that agree outside, what extends the one extends the other. -/
theorem Extends.congr {s u t : State} (extends_ : Extends u t) (same : u.outside = s.outside) : Extends s t :=
  (Extends.of_eq same).trans extends_

/-- What goes on from an extension to a state that agrees with it outside. -/
theorem Ensures.extends_next {o : Out} {f : State → State} {s : State} (first : Ensures o (Extends s))
    (same : ∀ u, (f u).outside = u.outside) : Ensures (Machine.andThen o fun u => .next (f u)) (Extends s) :=
  first.andThen_next fun u holds => holds.trans (.of_eq (same u))

theorem raiseError_extends (e : ErrorCode) (s : State) : Extends s (raiseError e s) where
  wire := List.prefix_rfl
  errors := List.prefix_append _ _
  halted h := by simp [h]
  inHandler := rfl
  portWord := rfl
  delivering := id

theorem execInit_extends (speed : BitVec 32) (a : Byte) (r : Role) (s : State) :
    Ensures (execInit speed a r s) (Extends s) :=
  execInit_ensures fun _ => .of_eq (by cases r <;> rfl)

theorem runCallbackOp_extends (op : CallbackOp) (s : State) : Ensures (runCallbackOp op s) (Extends s) := by
  cases op with
  | masterSendAsync _ _ _ _ => exact execMasterSendAsync_ensures (.of_eq rfl) fun _ _ _ _ => .of_eq rfl
  | masterReceiveAsync _ _ _ _ => exact execMasterReceiveAsync_ensures (.of_eq rfl) fun _ _ _ _ => .of_eq rfl
  | closeSend => exact execCloseSend_ensures fun _ => .of_eq rfl
  | closeReceive => exact execCloseReceive_ensures fun _ => .of_eq rfl
  | slaveSendByte _ => exact execSlaveSendByte_ensures (.of_eq rfl)
  | slaveReadByte _ => exact execSlaveReadByte_ensures (.of_eq rfl)
  | init speed a r => exact execInit_extends speed a r s
  | blocking => exact ensures_refused _ _
  | store _ _ | setGie _ => exact ensures_next (.of_eq rfl)
  | noReturn => exact ensures_fault _ _

/-- R276: a delivery begins with its callback's event and ends with none. -/
theorem notify_extends (ev : Event) (s : State) : Ensures (notify ev s) (Extends s) :=
  notify_ensures (P := Extends (beginDelivery ev s))
    (fun op u holds => (runCallbackOp_extends op u).mono fun _ => holds.trans) (.of_eq rfl)
    fun _ ⟨grows, inHandler, portWord, _⟩ => ⟨⟨grows.wire, grows.errors, grows.halted⟩, inHandler, portWord, fun _ => rfl⟩

/-- An arm's delivery after what it did first. -/
theorem notify_extends_after (ev : Event) {s u : State} (same : u.outside = s.outside) :
    Ensures (notify ev u) (Extends s) :=
  (notify_extends ev u).mono fun _ holds => holds.congr same

theorem closeBusySide_outside (s : State) : (closeBusySide s).outside = s.outside := by
  unfold closeBusySide
  split <;> rfl

theorem busErrorState_outside (s : State) : (busErrorState s).outside = s.outside := by
  by_cases closes : s.params.busErrorCloses = true
  · rw [busErrorState_of_closes closes, closeBusySide_outside]
    rfl
  · rw [busErrorState_of_not_closes closes]
    rfl

theorem endTransmit_extends (stop : Bool) (s : State) : Ensures (endTransmit stop s) (Extends s) :=
  notify_extends_after .txCmplt (by cases stop <;> rfl)

theorem endReceive_extends (stop : Bool) (s : State) : Ensures (endReceive stop s) (Extends s) :=
  notify_extends_after .rxCmplt (by cases stop <;> rfl)

theorem exec_extends (i : Instr) (s : State) : Ensures (exec i s) (Extends s) := by
  cases i with
  | stBusError => exact notify_extends_after .errBerr (busErrorState_outside s)
  | stStart | stRstart => exact armStart_ensures fun _ => .of_eq rfl
  | stSlawAck | stTxdAckMore => exact handOver_ensures fun _ _ => .of_eq rfl
  | stSlawNack => exact guarded_ensures fun _ => endTransmit_extends true s
  | stTxdAckLast | stTxdNack => exact guarded_ensures fun _ => endTransmit_extends _ s
  | stSlarAck | stRxdAck => exact guarded_ensures fun _ => ensures_next (.of_eq rfl)
  | stSlarNack => exact guarded_ensures fun _ => endReceive_extends true s
  | stRxdNack => exact guarded_ensures fun _ => (endReceive_extends _ _).mono fun _ holds => holds.congr rfl
  | ssSlawAck => exact guarded_ensures fun _ => ensures_next (.of_eq rfl)
  | ssRxdAck | ssRxdNack => exact guarded_ensures fun _ => deliverData_ensures (notify_extends .dataRcv s)
  | ssSlarAck | ssTxdAck => exact guarded_ensures fun _ => deliverData_ensures (notify_extends .dataReq s)
  | ssStopRs => exact guarded_ensures fun _ => notify_extends_after .stop rfl
  | ssTxdNack => exact guarded_ensures fun _ => notify_extends_after .errAf rfl
  | stArbLost | ssArbSlaw | ssGcall | ssArbGcall | ssGcRxdAck | ssGcRxdNack | ssArbSlar | ssTxlastAck | unassignedD0
  | unassignedD8 | unassignedE0 | unassignedE8 | unassignedF0 | stNoInfo => exact ensures_fault _ _
  | init speed a r => exact execInit_extends speed a r s
  | startCondition => exact execStartCondition_ensures fun _ => .of_eq rfl
  | addressTx _ _ => exact execAddressTx_ensures fun _ _ => .of_eq rfl
  | byteWrite _ => exact execByteWrite_ensures fun _ => .of_eq rfl
  | byteReadAckNack _ => exact execByteReadAckNack_ensures fun _ => .of_eq rfl
  | stopCondition => exact execStopCondition_ensures (.of_eq rfl)
  | masterSend _ _ _ _ => exact execMasterSend_ensures fun _ => .of_eq rfl
  | masterReceive _ _ _ _ => exact execMasterReceive_ensures fun _ => .of_eq rfl
  | masterSendAsync _ _ _ _ => exact execMasterSendAsync_ensures (.of_eq rfl) fun _ _ _ _ => .of_eq rfl
  | masterReceiveAsync _ _ _ _ => exact execMasterReceiveAsync_ensures (.of_eq rfl) fun _ _ _ _ => .of_eq rfl
  | closeSend => exact execCloseSend_ensures fun _ => .of_eq rfl
  | closeReceive => exact execCloseReceive_ensures fun _ => .of_eq rfl
  | slaveSendByte _ => exact execSlaveSendByte_ensures (.of_eq rfl)
  | slaveReadByte _ => exact execSlaveReadByte_ensures (.of_eq rfl)
  | unknownE | unknownF => exact ensures_refused _ _
  | cmdStart _ _ | cmdArm _ _ | cmdStop _ _ | cmdRearm _ _ => exact ensures_next (.of_eq rfl)
  | cmdXmit _ _ _ => exact execCmdXmit_ensures (.of_eq rfl)
  | addrByte _ _ => exact cmdXmit_ensures fun _ => .of_eq rfl
  | evTxCmplt | evRxCmplt | evStop | evErrArlo | evErrBerr | evErrAf | evErrOvr | evErrTimeout | evDataReq
  | evDataRcv => exact notify_extends _ s
  | errStart | errAddrNack => exact ensures_next (raiseError_extends _ s)

/-! HOST's and ENV's moves. -/

theorem finishTransaction_outside (rep : Bool) (s : State) : (finishTransaction rep s).outside = s.outside := by
  cases rep <;> rfl

theorem failed_extends (e : ErrorCode) {s u : State} (same : u.outside = s.outside) :
    Extends s ((raiseError e u).hold .idle) :=
  ((raiseError_extends e u).congr same).trans (.of_eq rfl)

theorem hostResume_extends (s : State) : Ensures (hostResume s) (Extends s) := by
  have ended (rep : Bool) : Extends s (finishTransaction rep s) := .of_eq (finishTransaction_outside rep s)
  unfold hostResume
  cases s.host with
  | idle | startWait | addressWait _ | writeWait | readWait => exact ensures_next (.of_eq rfl)
  | sendStart _ _ _ _ | receiveStart _ _ _ _ =>
    refine expected_ensures ?_ (failed_extends _ rfl)
    exact (cmdXmit_ensures fun _ => .of_eq rfl).extends_next fun _ => rfl
  | sendAddress _ _ rep =>
    exact expected_ensures (sendNext_ensures (ended rep) fun _ _ => .of_eq rfl) (failed_extends _ rfl)
  | sendByte _ _ rep => exact sendNext_ensures (ended rep) fun _ _ => .of_eq rfl
  | receiveAddress _ _ rep =>
    exact expected_ensures (receiveNext_ensures (ended rep) fun _ _ => .of_eq rfl) (failed_extends _ rfl)
  | receiveByte _ _ rep => exact receiveNext_ensures (.of_eq (finishTransaction_outside rep _)) fun _ _ => .of_eq rfl

theorem hostTurn_extends (s : State) : Ensures (hostTurn s) (Extends s) := by
  unfold hostTurn
  split
  · split
    · exact ensures_next (.of_eq rfl)
    · exact issueWord_ensures fun i => (exec_extends i _).mono fun _ holds => holds.congr rfl
    · exact ensures_next (.of_eq rfl)
    · exact ensures_next (.of_eq rfl)
    · exact waitReady_ensures (.of_eq rfl) (.of_eq rfl)
  · split
    · exact hostResume_extends s
    · exact ensures_next (.of_eq rfl)

/-- What ENV writes leaves the handler's frame, the port and the delivery alone. -/
theorem EnvWrites.extends {s t : State} (writes : EnvWrites s t) : Extends s t := by
  obtain ⟨own, wire⟩ := writes
  rw [own] at wire ⊢
  exact ⟨⟨wire, List.prefix_rfl, id⟩, rfl, rfl, id⟩

/-- One move of ENV, on the state with that move used up. -/
theorem envTurn_writes (s : State) : ∃ moves, EnvWrites { s with envMoves := moves } (envTurn s) := by
  cases next : s.envMoves with
  | nil => exact ⟨[], by rw [envTurn_nil next, ← next]; exact EnvWrites.refl s⟩
  | cons m moves => exact ⟨moves, by rw [envTurn_cons next]; exact EnvWrites.envStep m _⟩

theorem envTurn_extends (s : State) : Extends s (envTurn s) := by
  obtain ⟨moves, writes⟩ := envTurn_writes s
  exact writes.extends.congr rfl

/-- HOST's or ENV's move, from the state with a turn used up or not. -/
theorem agentMove_ensures {s : State} {P : State → Prop} (host : ∀ turns, Ensures (hostTurn { s with turns := turns }) P)
    (env : ∀ turns, P (envTurn { s with turns := turns })) : Ensures (agentMove s) P := by
  unfold agentMove
  split
  · exact ensures_next (env _)
  · exact host _
  · split
    · exact ensures_next (env s.turns)
    · exact host s.turns

theorem agentMove_extends (s : State) : Ensures (agentMove s) (Extends s) :=
  agentMove_ensures (fun _ => (hostTurn_extends _).mono fun _ holds => holds.congr rfl)
    fun _ => (envTurn_extends _).congr rfl

/-- A step that is not the reset input's, by the agent that makes it. -/
theorem step_ensures {s : State} {P : State → Prop} (noReset : ResetNotNext s)
    (halted : P { s with turns := s.turns.tail }) (handler : s.interruptCondition = true → Ensures (handlerStep s) P)
    (port : ∀ bytes, s.portWord = some bytes → Ensures (portWordStep bytes { s with portWord := none }) P)
    (agents : s.portWord = none → Ensures (agentMove s) P) : Ensures (step s) P := by
  by_cases isHalted : s.halted = true
  · rw [step_of_halted noReset isHalted]
    exact ensures_next halted
  · cases interrupt : s.interruptCondition with
    | true => exact step_of_interrupt noReset interrupt ▸ handler interrupt
    | false =>
      rw [step_of_no_interrupt noReset (Bool.eq_false_iff.2 isHalted) interrupt, agentStep]
      split
      next bytes laid => exact port bytes laid
      next noPortWord => exact agents noPortWord

theorem handlerStep_ensures {s : State} {P Q : State → Prop} (arm : Ensures (exec s.fetchArm (enterHandler s)) P)
    (leaves : ∀ u, P u → Q (leaveHandler u)) : Ensures (handlerStep s) Q :=
  arm.andThen_next leaves

theorem step_grows {s : State} (noReset : ResetNotNext s) : Ensures (step s) (Grows s) := by
  refine step_ensures noReset ⟨List.prefix_rfl, List.prefix_rfl, id⟩ (fun _ => ?_) (fun bytes _ => ?_) fun _ => ?_
  · exact handlerStep_ensures (exec_extends _ _) fun u ⟨⟨wire, errors, halted⟩, _, _, _⟩ => ⟨wire, errors, halted⟩
  · exact portWordStep_ensures fun i => (exec_extends i _).mono fun t ⟨⟨wire, errors, halted⟩, _, _, _⟩ =>
      ⟨wire, errors, halted⟩
  · exact (agentMove_extends s).mono fun t holds => holds.toGrows

/-- Settles O58: the events by `step_emits`, the rest by `step_grows`. -/
theorem observationsOnlyGrow : Obligations.ObservationsOnlyGrow := by
  unfold Obligations.ObservationsOnlyGrow
  intro s t noReset steps
  obtain ⟨⟨items, wire⟩, ⟨es, errors⟩, halted⟩ := step_grows noReset t steps
  exact ⟨⟨items, wire.symm⟩, ⟨_, step_emits noReset t steps⟩, ⟨es, errors.symm⟩, halted⟩

end Sys2Proof.Machine
end

section
/-! PROOFS. The invariant kept by every step (R29, R130, R150, R235, R274, R325). Between steps HOST is idle, or held in a
blocking operation that the handler cannot interrupt: an instruction runs in the first case, HOST goes on in the second. -/

namespace Sys2Proof.Machine

/-! Instance State (R29, R235), and what each operation leaves of it. -/

/-- R29, R235: the clauses of the invariant that speak of Instance State. -/
structure InstSound (i : Inst) : Prop where
  ready : i.state = .ready → i.pTx = null ∧ i.pRx = null ∧ i.txLen = 0#16 ∧ i.rxLen = 0#16
  sending : i.state = .busyTx → i.pRx = null ∧ i.rxLen = 0#16 ∧
    (i.txLen ≠ 0#16 → i.pTx ≠ null ∧ i.pTx.toNat + i.txLen.toNat ≤ 65536)
  receiving : i.state = .busyRx → i.pTx = null ∧ i.txLen = 0#16 ∧
    (i.rxLen ≠ 0#16 → i.pRx ≠ null ∧ i.pRx.toNat + i.rxLen.toNat ≤ 65536)
  slaveReady : i.cfg.role = .slave → i.state = .ready

/-- R63: of a buffer in range with a byte left after its first, the rest is in range. -/
theorem range_rest {p : Ptr} {n : Len} (someLeft : n ≠ 0#16) (range : p.toNat + n.toNat ≤ 65536)
    (more : n - 1#16 ≠ 0#16) : p + 1#16 ≠ null ∧ (p + 1#16).toNat + (n - 1#16).toNat ≤ 65536 := by
  unfold null
  constructor <;> bv_omega

namespace InstSound

variable {i : Inst}

/-- R185: the accepted send. -/
theorem acceptSend (sound : InstSound i) (ready : i.state = .ready) (master : i.cfg.role = .master) {buf : Ptr}
    {len : Len} (range : buf ≠ null ∧ buf.toNat + len.toNat ≤ 65536) (a : Addr7) (rep : Bool) :
    InstSound { i with pTx := buf, txLen := len, devAddr := a, rep := rep, state := .busyTx } where
  ready := nofun
  sending _ := ⟨(sound.ready ready).2.1, (sound.ready ready).2.2.2, fun _ => range⟩
  receiving := nofun
  slaveReady slave := by simp [master] at slave

/-- R210: the accepted receive. -/
theorem acceptReceive (sound : InstSound i) (ready : i.state = .ready) (master : i.cfg.role = .master) {buf : Ptr}
    {len : Len} (range : buf ≠ null ∧ buf.toNat + len.toNat ≤ 65536) (a : Addr7) (rep : Bool) :
    InstSound { i with pRx := buf, rxLen := len, devAddr := a, rep := rep, state := .busyRx } where
  ready := nofun
  sending := nofun
  receiving _ := ⟨(sound.ready ready).1, (sound.ready ready).2.2.1, fun _ => range⟩
  slaveReady slave := by simp [master] at slave

/-- R194: a close of the transmit side, while the receive side is not busy. -/
theorem closeSend (sound : InstSound i) (notRx : i.state ≠ .busyRx) :
    InstSound { i with state := .ready, pTx := null, txLen := 0#16 } where
  ready _ := by
    cases state : i.state with
    | ready => exact ⟨rfl, (sound.ready state).2.1, rfl, (sound.ready state).2.2.2⟩
    | busyTx => exact ⟨rfl, (sound.sending state).1, rfl, (sound.sending state).2.1⟩
    | busyRx => exact absurd state notRx
  sending := nofun
  receiving := nofun
  slaveReady _ := rfl

/-- R219: a close of the receive side, while the transmit side is not busy. -/
theorem closeReceive (sound : InstSound i) (notTx : i.state ≠ .busyTx) :
    InstSound { i with state := .ready, pRx := null, rxLen := 0#16 } where
  ready _ := by
    cases state : i.state with
    | ready => exact ⟨(sound.ready state).1, rfl, (sound.ready state).2.2.1, rfl⟩
    | busyTx => exact absurd state notTx
    | busyRx => exact ⟨(sound.receiving state).1, rfl, (sound.receiving state).2.1, rfl⟩
  sending := nofun
  receiving := nofun
  slaveReady _ := rfl

/-- R260, R265: `Init` on a READY instance. -/
theorem configured (sound : InstSound i) (ready : i.state = .ready) (cfg : InstConfig) :
    InstSound { i with cfg := cfg } where
  ready := sound.ready
  sending := sound.sending
  receiving := sound.receiving
  slaveReady _ := ready

/-- R187, R189: a byte handed over. -/
theorem advanceTx (sound : InstSound i) (tx : i.state = .busyTx) (someLeft : i.txLen ≠ 0#16) :
    InstSound { i with pTx := i.pTx + 1#16, txLen := i.txLen - 1#16 } where
  ready ready := by simp [tx] at ready
  sending _ := by
    obtain ⟨pRx, rxLen, range⟩ := sound.sending tx
    exact ⟨pRx, rxLen, range_rest someLeft (range someLeft).2⟩
  receiving rx := by simp [tx] at rx
  slaveReady := sound.slaveReady

/-- R214: a byte stored. -/
theorem advanceRx (sound : InstSound i) (rx : i.state = .busyRx) (someLeft : i.rxLen ≠ 0#16) :
    InstSound { i with pRx := i.pRx + 1#16, rxLen := i.rxLen - 1#16 } where
  ready ready := by simp [rx] at ready
  sending tx := by simp [rx] at tx
  receiving _ := by
    obtain ⟨pTx, txLen, range⟩ := sound.receiving rx
    exact ⟨pTx, txLen, range_rest someLeft (range someLeft).2⟩
  slaveReady := sound.slaveReady

end InstSound

/-! HOST idle, and HOST held. -/

/-- HOST is idle; memory and Instance State are sound. -/
structure Calm (s : State) : Prop where
  memory : s.mem.wf = true
  inst : InstSound s.inst
  idle : s.host = .idle

/-- R130, R150: HOST may be in a blocking operation; memory and Instance State are sound. -/
structure Held (s : State) : Prop where
  memory : s.mem.wf = true
  inst : InstSound s.inst
  ready : s.inst.state = .ready
  master : s.inst.cfg.role = .master
  masked : s.handlerCouldRun = false

/-- What the invariant says of memory, Instance State and HOST. -/
def Sound (s : State) : Prop := Calm s ∨ Held s

theorem Inv.sound {s : State} (inv : Inv s) : Sound s := by
  have inst : InstSound s.inst := ⟨inv.ready, inv.sending, inv.receiving, inv.slaveReady⟩
  by_cases idle : s.host = .idle
  · exact .inl ⟨inv.memory, inst, idle⟩
  · obtain ⟨ready, master, masked⟩ := inv.blocking idle
    exact .inr ⟨inv.memory, inst, ready, master, masked⟩

theorem Sound.inv {s : State} (sound : Sound s) (noHandler : s.inHandler = false) (noDelivery : s.delivering = none)
    (noPortWord : s.portWord = none) : Inv s := by
  rcases sound with calm | held
  · obtain ⟨ready, sending, receiving, slaveReady⟩ := calm.inst
    exact ⟨calm.memory, ready, sending, receiving, slaveReady, fun other => absurd calm.idle other, noHandler, noDelivery,
      noPortWord⟩
  · obtain ⟨ready, sending, receiving, slaveReady⟩ := held.inst
    exact ⟨held.memory, ready, sending, receiving, slaveReady, fun _ => ⟨held.ready, held.master, held.masked⟩, noHandler,
      noDelivery, noPortWord⟩

/-- The fields that `Calm` speaks of. -/
def State.calmPart (s : State) : Memory × Inst × HostCtl := (s.mem, s.inst, s.host)

/-- The fields that `Held` speaks of. -/
def State.heldPart (s : State) : Memory × Inst × Bool := (s.mem, s.inst, s.handlerCouldRun)

theorem Calm.congr {s t : State} (calm : Calm s) (same : t.calmPart = s.calmPart) : Calm t := by
  simp only [State.calmPart, Prod.mk.injEq] at same
  obtain ⟨mem, inst, host⟩ := same
  exact ⟨mem ▸ calm.memory, inst ▸ calm.inst, host.trans calm.idle⟩

theorem Held.congr {s t : State} (held : Held s) (same : t.heldPart = s.heldPart) : Held t := by
  simp only [State.heldPart, Prod.mk.injEq] at same
  obtain ⟨mem, inst, masked⟩ := same
  exact ⟨mem ▸ held.memory, inst ▸ held.inst, inst ▸ held.ready, inst ▸ held.master, masked.trans held.masked⟩

theorem Sound.congr {s t : State} (sound : Sound s) (calm : t.calmPart = s.calmPart) (held : t.heldPart = s.heldPart) :
    Sound t :=
  sound.imp (·.congr calm) (·.congr held)

/-- Of a calm state, with another Instance State. -/
theorem Calm.with_inst {s t : State} (calm : Calm s) (inst : InstSound t.inst) (mem : t.mem = s.mem)
    (host : t.host = s.host) : Calm t :=
  ⟨mem ▸ calm.memory, inst, host.trans calm.idle⟩

theorem Calm.storeAt {s : State} (calm : Calm s) (p : Ptr) (b : Byte) : Calm (s.storeAt p b) :=
  ⟨Memory.wf_write calm.memory p b, calm.inst, calm.idle⟩

theorem Held.storeAt {s : State} (held : Held s) (p : Ptr) (b : Byte) : Held (s.storeAt p b) :=
  ⟨Memory.wf_write held.memory p b, held.inst, held.ready, held.master, held.masked⟩

/-- R130: an idle HOST that begins a blocking operation will be held rightly. -/
theorem Calm.held {s : State} (calm : Calm s) (allowed : blockingRefusal s = none) : Held s := by
  obtain ⟨-, -, master, ready, masked⟩ := blockingRefusal_none.1 allowed
  exact ⟨calm.memory, calm.inst, ready, master, masked⟩

/-! The operations that keep a calm state calm: those that a callback can use, and the handler's arms. -/

theorem Calm.acceptSend {s : State} (calm : Calm s) {buf : Ptr} {len : Len} {a : Byte} (entry : entryRefusal a s = none)
    (ready : s.inst.state = .ready) (someBytes : len ≠ 0#16) (fits : bufferRefusal buf len = none) (rep : Bool) :
    Calm (acceptSend buf len (addr7 a) rep s) := by
  obtain ⟨-, master, -⟩ := entryRefusal_none.1 entry
  exact calm.with_inst
    (calm.inst.acceptSend ready master (range_of_bufferRefusal_none fits someBytes) (addr7 a) rep) rfl rfl

theorem Calm.acceptReceive {s : State} (calm : Calm s) {buf : Ptr} {len : Len} {a : Byte}
    (entry : entryRefusal a s = none) (ready : s.inst.state = .ready) (someBytes : len ≠ 0#16)
    (fits : bufferRefusal buf len = none) (rep : Bool) : Calm (acceptReceive buf len (addr7 a) rep s) := by
  obtain ⟨-, master, -⟩ := entryRefusal_none.1 entry
  exact calm.with_inst
    (calm.inst.acceptReceive ready master (range_of_bufferRefusal_none fits someBytes) (addr7 a) rep) rfl rfl

theorem Calm.closeSendOp {s : State} (calm : Calm s) (notRx : s.inst.state ≠ .busyRx) : Calm (closeSendOp s) :=
  calm.with_inst (calm.inst.closeSend notRx) rfl rfl

theorem Calm.closeReceiveOp {s : State} (calm : Calm s) (notTx : s.inst.state ≠ .busyTx) : Calm (closeReceiveOp s) :=
  calm.with_inst (calm.inst.closeReceive notTx) rfl rfl

/-- R194, R312: an explicit close of the transmit side is not admitted while the receive side is busy. -/
theorem notRx_of_closeRefusal {s : State} (admitted : closeRefusal .busyTx s = none) : s.inst.state ≠ .busyRx := by
  obtain ⟨-, ⟨ready, -⟩ | ⟨tx, -⟩⟩ := closeSend_admitted.1 admitted
  · simp [ready]
  · simp [tx]

theorem notTx_of_closeRefusal {s : State} (admitted : closeRefusal .busyRx s = none) : s.inst.state ≠ .busyTx := by
  obtain ⟨-, ⟨ready, -⟩ | ⟨rx, -⟩⟩ := closeReceive_admitted.1 admitted
  · simp [ready]
  · simp [rx]

theorem execInit_calm {s : State} (calm : Calm s) (speed : BitVec 32) (a : Byte) (r : Role) :
    Ensures (execInit speed a r s) Calm :=
  execInit_ensures fun ready => by
    have configured := calm.inst.configured ready ⟨speed, addr7 a, r⟩
    cases r <;> exact calm.with_inst configured rfl rfl

theorem runCallbackOp_calm {s : State} (op : CallbackOp) (calm : Calm s) : Ensures (runCallbackOp op s) Calm := by
  cases op with
  | masterSendAsync _ _ _ _ =>
    exact execMasterSendAsync_ensures calm fun entry ready some fits => calm.acceptSend entry ready some fits _
  | masterReceiveAsync _ _ _ _ =>
    exact execMasterReceiveAsync_ensures calm fun entry ready some fits => calm.acceptReceive entry ready some fits _
  | closeSend => exact execCloseSend_ensures fun admitted => calm.closeSendOp (notRx_of_closeRefusal admitted)
  | closeReceive => exact execCloseReceive_ensures fun admitted => calm.closeReceiveOp (notTx_of_closeRefusal admitted)
  | slaveSendByte _ => exact execSlaveSendByte_ensures (calm.congr rfl)
  | slaveReadByte _ => exact execSlaveReadByte_ensures (calm.congr rfl)
  | init speed a r => exact execInit_calm calm speed a r
  | blocking => exact ensures_refused _ _
  | store p b => exact ensures_next (calm.storeAt p b)
  | setGie _ => exact ensures_next (calm.congr rfl)
  | noReturn => exact ensures_fault _ _

theorem notify_calm {s : State} (ev : Event) (calm : Calm s) : Ensures (notify ev s) Calm :=
  notify_ensures (fun op _ => runCallbackOp_calm op) (calm.congr rfl) fun _ calm => calm.congr rfl

theorem endTransmit_calm {s : State} (stop : Bool) (calm : Calm s) (tx : s.inst.state = .busyTx) :
    Ensures (endTransmit stop s) Calm := by
  refine notify_calm .txCmplt ?_
  have notRx : s.inst.state ≠ .busyRx := by simp [tx]
  cases stop with
  | true => exact (calm.congr rfl : Calm (cmdStop s)).closeSendOp notRx
  | false => exact calm.closeSendOp notRx

theorem endReceive_calm {s : State} (stop : Bool) (calm : Calm s) (rx : s.inst.state = .busyRx) :
    Ensures (endReceive stop s) Calm := by
  refine notify_calm .rxCmplt ?_
  have notTx : s.inst.state ≠ .busyTx := by simp [rx]
  cases stop with
  | true => exact (calm.congr rfl : Calm (cmdStop s)).closeReceiveOp notTx
  | false => exact calm.closeReceiveOp notTx

theorem closeBusySide_calm {s : State} (calm : Calm s) : Calm (closeBusySide s) := by
  cases state : s.inst.state with
  | ready => rwa [closeBusySide_of_ready state]
  | busyTx => rw [closeBusySide_of_busyTx state]; exact calm.closeSendOp (by simp [state])
  | busyRx => rw [closeBusySide_of_busyRx state]; exact calm.closeReceiveOp (by simp [state])

theorem busErrorState_calm {s : State} (calm : Calm s) : Calm (busErrorState s) := by
  have stopped : Calm { cmdStop s with dead := true } := calm.congr rfl
  by_cases closes : s.params.busErrorCloses = true
  · exact busErrorState_of_closes closes ▸ closeBusySide_calm stopped
  · exact busErrorState_of_not_closes closes ▸ stopped

/-- From an idle HOST, what an instruction answers is sound: an idle HOST, or one held in the blocking operation that the
instruction began. -/
theorem exec_sound {s : State} (i : Instr) (calm : Calm s) : Ensures (exec i s) Sound := by
  have arm {o : Out} (answers : Ensures o Calm) : Ensures o Sound := answers.mono fun _ => .inl
  have begins (allowed : blockingRefusal s = none) {t : State} (same : t.heldPart = s.heldPart) : Sound t :=
    .inr ((calm.held allowed).congr same)
  cases i with
  | stBusError => exact arm (notify_calm .errBerr (busErrorState_calm calm))
  | stStart | stRstart => exact arm (armStart_ensures fun _ => calm.congr rfl)
  | stSlawAck | stTxdAckMore =>
    refine arm (handOver_ensures fun sends b => ?_)
    obtain ⟨tx, someLeft, -⟩ := State.canSend_iff.1 sends
    exact calm.with_inst (calm.inst.advanceTx tx someLeft) rfl rfl
  | stSlawNack => exact guarded_ensures fun tx => arm (endTransmit_calm true calm tx)
  | stTxdAckLast =>
    refine guarded_ensures fun guard => arm (endTransmit_calm _ calm ?_)
    simp only [Bool.and_eq_true, decide_eq_true_eq] at guard
    exact guard.1
  | stTxdNack => exact guarded_ensures fun tx => arm (endTransmit_calm _ calm tx)
  | stSlarAck => exact guarded_ensures fun _ => arm (ensures_next (calm.congr rfl))
  | stRxdAck =>
    refine guarded_ensures fun stores => arm (ensures_next ?_)
    obtain ⟨rx, someLeft, -⟩ := State.canStore_iff.1 stores
    exact (calm.storeAt s.inst.pRx s.dr).with_inst (calm.inst.advanceRx rx someLeft) rfl rfl
  | stSlarNack => exact guarded_ensures fun rx => arm (endReceive_calm true calm rx)
  | stRxdNack =>
    refine guarded_ensures fun stores => arm (endReceive_calm _ (calm.storeAt s.inst.pRx s.dr) ?_)
    exact (State.canStore_iff.1 stores).1
  | ssSlawAck => exact guarded_ensures fun _ => arm (ensures_next (calm.congr rfl))
  | ssRxdAck | ssRxdNack => exact guarded_ensures fun _ => arm (deliverData_ensures (notify_calm .dataRcv calm))
  | ssSlarAck | ssTxdAck => exact guarded_ensures fun _ => arm (deliverData_ensures (notify_calm .dataReq calm))
  | ssStopRs => exact guarded_ensures fun _ => arm (notify_calm .stop (calm.congr rfl))
  | ssTxdNack => exact guarded_ensures fun _ => arm (notify_calm .errAf (calm.congr rfl))
  | stArbLost | ssArbSlaw | ssGcall | ssArbGcall | ssGcRxdAck | ssGcRxdNack | ssArbSlar | ssTxlastAck | unassignedD0
  | unassignedD8 | unassignedE0 | unassignedE8 | unassignedF0 | stNoInfo => exact ensures_fault _ _
  | init speed a r => exact arm (execInit_calm calm speed a r)
  | startCondition => exact execStartCondition_ensures fun allowed => begins allowed rfl
  | addressTx _ _ => exact execAddressTx_ensures fun allowed _ => begins allowed rfl
  | byteWrite _ => exact execByteWrite_ensures fun allowed => begins allowed rfl
  | byteReadAckNack _ => exact execByteReadAckNack_ensures fun allowed => begins allowed rfl
  | stopCondition => exact arm (execStopCondition_ensures (calm.congr rfl))
  | masterSend _ _ _ _ => exact execMasterSend_ensures fun allowed => begins allowed rfl
  | masterReceive _ _ _ _ => exact execMasterReceive_ensures fun allowed => begins allowed rfl
  | masterSendAsync buf len a rep => exact arm (runCallbackOp_calm (.masterSendAsync buf len a rep) calm)
  | masterReceiveAsync buf len a rep => exact arm (runCallbackOp_calm (.masterReceiveAsync buf len a rep) calm)
  | closeSend => exact arm (runCallbackOp_calm .closeSend calm)
  | closeReceive => exact arm (runCallbackOp_calm .closeReceive calm)
  | slaveSendByte b => exact arm (runCallbackOp_calm (.slaveSendByte b) calm)
  | slaveReadByte k => exact arm (runCallbackOp_calm (.slaveReadByte k) calm)
  | unknownE | unknownF => exact ensures_refused _ _
  | cmdStart _ _ | cmdArm _ _ | cmdStop _ _ | cmdRearm _ _ => exact arm (ensures_next (calm.congr rfl))
  | cmdXmit _ _ _ => exact arm (execCmdXmit_ensures (calm.congr rfl))
  | addrByte _ _ => exact arm (cmdXmit_ensures fun _ => calm.congr rfl)
  | evTxCmplt | evRxCmplt | evStop | evErrArlo | evErrBerr | evErrAf | evErrOvr | evErrTimeout | evDataReq
  | evDataRcv => exact arm (notify_calm _ calm)
  | errStart | errAddrNack => exact arm (ensures_next (calm.congr rfl))

/-! HOST and ENV. -/

theorem finishTransaction_heldPart (rep : Bool) (s : State) : (finishTransaction rep s).heldPart = s.heldPart := by
  cases rep <;> rfl

/-- R131: what HOST goes on to leaves Instance State and the interrupt's masks as they were. -/
theorem hostResume_held {s : State} (held : Held s) : Ensures (hostResume s) Held := by
  have ended (rep : Bool) : Held (finishTransaction rep s) := held.congr (finishTransaction_heldPart rep s)
  unfold hostResume
  cases s.host with
  | idle | startWait | addressWait _ | writeWait | readWait => exact ensures_next (held.congr rfl)
  | sendStart _ _ _ _ | receiveStart _ _ _ _ =>
    refine expected_ensures ?_ (held.congr rfl)
    exact (cmdXmit_ensures (P := Held) fun _ => held.congr rfl).andThen_next fun _ held => held.congr rfl
  | sendAddress _ _ rep => exact expected_ensures (sendNext_ensures (ended rep) fun _ _ => held.congr rfl) (held.congr rfl)
  | sendByte _ _ rep => exact sendNext_ensures (ended rep) fun _ _ => held.congr rfl
  | receiveAddress _ _ rep =>
    exact expected_ensures (receiveNext_ensures (ended rep) fun _ _ => held.congr rfl) (held.congr rfl)
  | receiveByte buf _ rep =>
    have stored := held.storeAt buf s.dr
    exact receiveNext_ensures (stored.congr (finishTransaction_heldPart rep _)) fun _ _ => stored.congr rfl

theorem hostTurn_calm {s : State} (calm : Calm s) : Ensures (hostTurn s) Sound := by
  unfold hostTurn
  split
  · split
    · exact ensures_next (.inl calm)
    next rest _ => exact issueWord_ensures fun i => exec_sound i (calm.congr rfl : Calm { s with app := rest })
    next rest _ => exact ensures_next (.inl ((calm.congr rfl : Calm { s with app := rest }).storeAt _ _))
    · exact ensures_next (.inl (calm.congr rfl))
    · exact waitReady_ensures (.inl calm) (.inl (calm.congr rfl))
  next busy => exact absurd calm.idle busy

theorem hostTurn_sound {s : State} (sound : Sound s) (blocking : s.host ≠ .idle → Held s) :
    Ensures (hostTurn s) Sound := by
  by_cases idle : s.host = .idle
  · rcases sound with calm | held
    · exact hostTurn_calm calm
    · exact hostTurn_calm ⟨held.memory, held.inst, idle⟩
  · have held := blocking idle
    cases int : s.cr.int with
    | true => exact hostTurn_of_held idle int ▸ (hostResume_held held).mono fun _ => .inr
    | false => exact hostTurn_poll idle int ▸ ensures_next (.inr held)

/-- ENV writes nothing that the invariant speaks of. -/
theorem envTurn_sound {s : State} (sound : Sound s) : Sound (envTurn s) := by
  obtain ⟨moves, own, -⟩ := envTurn_writes s
  rw [own]
  exact sound.congr rfl rfl

theorem afterReset_inv (s : State) (gie : Bool) (image : List (Ptr × Byte)) : Inv (s.afterReset gie image) :=
  { resetSatisfiesInvariant with
    memory := Memory.wf_load image
    blocking := fun held => absurd rfl held }

/-- R272: while the handler runs HOST is idle. -/
theorem Inv.calm_of_interrupt {s : State} (inv : Inv s) (interrupt : s.interruptCondition = true) : Calm s := by
  refine inv.sound.resolve_right fun held => ?_
  have masked := held.masked
  simp only [State.interruptCondition, State.pendingInterrupt, Bool.and_eq_true] at interrupt
  simp [State.handlerCouldRun, interrupt] at masked

/-- A step that is not the reset input's, by the agent that makes it. -/
theorem step_keeps_inv {s : State} (inv : Inv s) (noReset : ResetNotNext s) : Ensures (step s) Inv := by
  have handlerFree : Inv { s with turns := s.turns.tail } :=
    (inv.sound.congr rfl rfl : Sound { s with turns := s.turns.tail }).inv inv.noHandler inv.noDelivery inv.noPortWord
  refine step_ensures noReset handlerFree (fun interrupt => ?_) (fun bytes laid => ?_) fun noPortWord t moves => ?_
  · have entered : Calm (enterHandler s) := (inv.calm_of_interrupt interrupt).congr rfl
    refine handlerStep_ensures (P := fun u => Sound u ∧ Extends (enterHandler s) u)
      (fun u runs => ⟨exec_sound _ entered u runs, exec_extends _ _ u runs⟩) fun u ⟨sound, frame⟩ => ?_
    exact (sound.congr rfl rfl : Sound (leaveHandler u)).inv rfl (frame.delivering inv.noDelivery)
      (frame.portWord.trans inv.noPortWord)
  · simp [inv.noPortWord] at laid
  · have sound : Sound t :=
      agentMove_ensures
        (fun turns => hostTurn_sound (inv.sound.congr rfl rfl) fun busy => by
          obtain ⟨ready, master, masked⟩ := inv.blocking busy
          exact ⟨inv.memory, ⟨inv.ready, inv.sending, inv.receiving, inv.slaveReady⟩, ready, master, masked⟩)
        (fun turns => envTurn_sound (inv.sound.congr rfl rfl)) t moves
    have frame := agentMove_extends s t moves
    exact sound.inv (frame.inHandler.trans inv.noHandler) (frame.delivering inv.noDelivery)
      (frame.portWord.trans noPortWord)

/-- Settles O14: the reset input leaves a state like the one after reset; any other step is `step_keeps_inv`. -/
theorem stepKeepsInvariant : Obligations.StepKeepsInvariant := by
  unfold Obligations.StepKeepsInvariant
  intro s t inv steps
  cases reset : s.resetNext with
  | none => exact step_keeps_inv inv reset t steps
  | some u =>
    rw [step_of_reset reset] at steps
    cases steps
    unfold State.resetNext at reset
    split at reset
    · cases reset
      exact afterReset_inv _ _ _
    · cases reset

end Sys2Proof.Machine
end

section
/-! PROOFS. What an instruction does to `inst.state` (R170) and to CR.IE (R33) under a callback that does nothing, and what a
handler invocation leaves of CR.INT and CR.IE under any callback short of `Init` (R175). -/

namespace Sys2Proof.Machine

/-! The changes of `inst.state` and CR.IE. -/

/-- R188, R191, R192, R194, R173: the instructions that end a send, a bus error by the switch. -/
def EndsSend (i : Instr) (closes : Bool) : Prop :=
  i = .stSlawNack ∨ i = .stTxdAckLast ∨ i = .stTxdNack ∨ i = .closeSend ∨ i = .stBusError ∧ closes = true

/-- R213, R215, R219, R173: the instructions that end a receive, a bus error by the switch. -/
def EndsReceive (i : Instr) (closes : Bool) : Prop :=
  i = .stSlarNack ∨ i = .stRxdNack ∨ i = .closeReceive ∨ i = .stBusError ∧ closes = true

/-- R33, R170: what an instruction under a quiet callback does to `inst.state` and CR.IE: nothing to either; the row of a
control word writes IE; `Init` in the slave role sets it; an accepted entry point opens a side and sets it; an ending
closes its side and clears it. -/
inductive Transition (i : Instr) (s t : State) : Prop
  | kept (state : t.inst.state = s.inst.state) (ie : t.cr.ie = s.cr.ie)
  | row (port : (encode i).format = .cr) (state : t.inst.state = s.inst.state)
  | listens (speed : BitVec 32) (a : Byte) (is : i = .init speed a .slave) (state : t.inst.state = s.inst.state)
      (ie : t.cr.ie = true)
  | sends (buf : Ptr) (len : Len) (a : Byte) (rep : Bool) (is : i = .masterSendAsync buf len a rep)
      (someBytes : len ≠ 0#16) (ready : s.inst.state = .ready) (busy : t.inst.state = .busyTx) (ie : t.cr.ie = true)
  | receives (buf : Ptr) (len : Len) (a : Byte) (rep : Bool) (is : i = .masterReceiveAsync buf len a rep)
      (someBytes : len ≠ 0#16) (ready : s.inst.state = .ready) (busy : t.inst.state = .busyRx) (ie : t.cr.ie = true)
  | sendEnds (is : EndsSend i s.params.busErrorCloses) (notRx : s.inst.state ≠ .busyRx) (ready : t.inst.state = .ready)
      (ie : t.cr.ie = false)
  | receiveEnds (is : EndsReceive i s.params.busErrorCloses) (notTx : s.inst.state ≠ .busyTx)
      (ready : t.inst.state = .ready) (ie : t.cr.ie = false)

/-- A delivery to a callback that does nothing leaves the delivered state. -/
theorem notify_quiet_ensures {ev : Event} {s : State} {P : State → Prop} (quiet : QuietCallback s)
    (holds : P (delivered ev s)) : Ensures (notify ev s) P :=
  notify_delivered quiet ▸ ensures_next holds

theorem endTransmit_quiet {stop : Bool} {s : State} {P : State → Prop} (quiet : QuietCallback s)
    (holds : ∀ t : State, t.inst.state = .ready → t.cr.ie = false → P t) : Ensures (endTransmit stop s) P := by
  cases stop <;> exact notify_quiet_ensures (quiet.congr rfl) (holds _ rfl rfl)

theorem endReceive_quiet {stop : Bool} {s : State} {P : State → Prop} (quiet : QuietCallback s)
    (holds : ∀ t : State, t.inst.state = .ready → t.cr.ie = false → P t) : Ensures (endReceive stop s) P := by
  cases stop <;> exact notify_quiet_ensures (quiet.congr rfl) (holds _ rfl rfl)

/-- R172, R173: the bus error arm closes the busy side if the switch says so. -/
theorem exec_stBusError_transition {s : State} (quiet : QuietCallback s) :
    Ensures (exec .stBusError s) (Transition .stBusError s) := by
  rw [exec_stBusError_quiet quiet]
  refine ensures_next ?_
  by_cases closes : s.params.busErrorCloses = true
  · rw [busErrorState_of_closes closes]
    cases state : s.inst.state with
    | ready => rw [closeBusySide_of_ready (by exact state)]; exact .kept rfl rfl
    | busyTx =>
      rw [closeBusySide_of_busyTx (by exact state)]
      exact .sendEnds (.inr (.inr (.inr (.inr ⟨rfl, closes⟩)))) (by simp [state]) rfl rfl
    | busyRx =>
      rw [closeBusySide_of_busyRx (by exact state)]
      exact .receiveEnds (.inr (.inr (.inr ⟨rfl, closes⟩))) (by simp [state]) rfl rfl
  · rw [busErrorState_of_not_closes closes]
    exact .kept rfl rfl

theorem exec_transition {s : State} (quiet : QuietCallback s) (i : Instr) :
    Ensures (exec i s) (Transition i s) := by
  cases i with
  | stBusError => exact exec_stBusError_transition quiet
  | stStart | stRstart => exact armStart_ensures fun _ => .kept rfl rfl
  | stSlawAck | stTxdAckMore => exact handOver_ensures fun _ _ => .kept rfl rfl
  | stSlawNack =>
    exact guarded_ensures fun tx => endTransmit_quiet quiet fun _ => .sendEnds (.inl rfl) (by simp [tx])
  | stTxdAckLast =>
    refine guarded_ensures fun guard => endTransmit_quiet quiet fun _ => .sendEnds (.inr (.inl rfl)) ?_
    simp only [Bool.and_eq_true, decide_eq_true_eq] at guard
    simp [guard]
  | stTxdNack =>
    exact guarded_ensures fun tx => endTransmit_quiet quiet fun _ => .sendEnds (.inr (.inr (.inl rfl))) (by simp [tx])
  | stSlarAck | stRxdAck => exact guarded_ensures fun _ => ensures_next (.kept rfl rfl)
  | stSlarNack =>
    exact guarded_ensures fun rx => endReceive_quiet quiet fun _ => .receiveEnds (.inl rfl) (by simp [rx])
  | stRxdNack =>
    refine guarded_ensures fun stores => endReceive_quiet (quiet.congr rfl) fun _ => .receiveEnds (.inr (.inl rfl)) ?_
    simp [(State.canStore_iff.1 stores).1]
  | ssSlawAck => exact guarded_ensures fun _ => ensures_next (.kept rfl rfl)
  | ssRxdAck | ssRxdNack | ssSlarAck | ssTxdAck =>
    exact guarded_ensures fun _ => deliverData_ensures (notify_quiet_ensures quiet (.kept rfl rfl))
  | ssStopRs | ssTxdNack =>
    exact guarded_ensures fun _ => notify_quiet_ensures (quiet.congr rfl) (.kept rfl rfl)
  | stArbLost | ssArbSlaw | ssGcall | ssArbGcall | ssGcRxdAck | ssGcRxdNack | ssArbSlar | ssTxlastAck | unassignedD0
  | unassignedD8 | unassignedE0 | unassignedE8 | unassignedF0 | stNoInfo => exact ensures_fault _ _
  | init speed a r =>
    intro t goesOn
    obtain ⟨-, masked, -, rfl⟩ := execInit_cases goesOn
    cases r with
    | master => exact .kept rfl masked.symm
    | slave => exact .listens speed a rfl rfl rfl
  | startCondition => exact execStartCondition_ensures fun _ => .kept rfl rfl
  | addressTx _ _ => exact execAddressTx_ensures fun _ _ => .kept rfl rfl
  | byteWrite _ => exact execByteWrite_ensures fun _ => .kept rfl rfl
  | byteReadAckNack _ => exact execByteReadAckNack_ensures fun _ => .kept rfl rfl
  | stopCondition => exact execStopCondition_ensures (.kept rfl rfl)
  | masterSend _ _ _ _ => exact execMasterSend_ensures fun _ => .kept rfl rfl
  | masterReceive _ _ _ _ => exact execMasterReceive_ensures fun _ => .kept rfl rfl
  | masterSendAsync buf len a rep =>
    exact execMasterSendAsync_ensures (.kept rfl rfl) fun _ ready someBytes _ =>
      .sends buf len a rep rfl someBytes ready rfl rfl
  | masterReceiveAsync buf len a rep =>
    exact execMasterReceiveAsync_ensures (.kept rfl rfl) fun _ ready someBytes _ =>
      .receives buf len a rep rfl someBytes ready rfl rfl
  | closeSend =>
    exact execCloseSend_ensures fun admitted =>
      .sendEnds (.inr (.inr (.inr (.inl rfl)))) (notRx_of_closeRefusal admitted) rfl rfl
  | closeReceive =>
    exact execCloseReceive_ensures fun admitted =>
      .receiveEnds (.inr (.inr (.inl rfl))) (notTx_of_closeRefusal admitted) rfl rfl
  | slaveSendByte _ => exact execSlaveSendByte_ensures (.kept rfl rfl)
  | slaveReadByte _ => exact execSlaveReadByte_ensures (.kept rfl rfl)
  | unknownE | unknownF => exact ensures_refused _ _
  | cmdStart _ _ | cmdArm _ _ | cmdStop _ _ | cmdRearm _ _ => exact ensures_next (.row rfl rfl)
  | cmdXmit _ _ _ => exact execCmdXmit_ensures (.row rfl rfl)
  | addrByte _ _ => exact cmdXmit_ensures fun _ => .kept rfl rfl
  | evTxCmplt | evRxCmplt | evStop | evErrArlo | evErrBerr | evErrAf | evErrOvr | evErrTimeout | evDataReq
  | evDataRcv => exact notify_quiet_ensures quiet (.kept rfl rfl)
  | errStart | errAddrNack => exact ensures_next (.kept rfl rfl)

/-- Settles O54: of the transitions, those that keep `inst.state` are excluded, and an ending found its side busy. -/
theorem stateTransitions : Obligations.StateTransitions := by
  unfold Obligations.StateTransitions
  intro i s t quiet goesOn changed
  cases exec_transition quiet i t goesOn with
  | kept state _ | row _ state | listens _ _ _ state _ => exact absurd state changed
  | sends buf len a rep is someBytes ready busy _ => exact .inl ⟨ready, busy, buf, len, a, rep, is, someBytes⟩
  | receives buf len a rep is someBytes ready busy _ =>
    exact .inr (.inl ⟨ready, busy, buf, len, a, rep, is, someBytes⟩)
  | sendEnds is notRx ready _ =>
    have wasBusy : s.inst.state = .busyTx := by
      cases state : s.inst.state with
      | ready => exact absurd (ready.trans state.symm) changed
      | busyTx => rfl
      | busyRx => exact absurd state notRx
    exact .inr (.inr (.inl ⟨wasBusy, ready, is⟩))
  | receiveEnds is notTx ready _ =>
    have wasBusy : s.inst.state = .busyRx := by
      cases state : s.inst.state with
      | ready => exact absurd (ready.trans state.symm) changed
      | busyTx => exact absurd state notTx
      | busyRx => rfl
    exact .inr (.inr (.inr ⟨wasBusy, ready, is⟩))

/-- Settles O55: of the transitions, the one that keeps CR.IE is excluded; the others say who set or cleared it. -/
theorem interruptEnableChanges : Obligations.InterruptEnableChanges := by
  unfold Obligations.InterruptEnableChanges
  intro i s t quiet goesOn changed
  cases exec_transition quiet i t goesOn with
  | kept _ ie => exact absurd ie changed
  | row port _ => exact .inl port
  | listens speed a is _ ie => exact .inr (.inl ⟨ie, .inr (.inr ⟨speed, a, is⟩)⟩)
  | sends buf len a rep is someBytes _ _ ie => exact .inr (.inl ⟨ie, .inl ⟨buf, len, a, rep, is, someBytes⟩⟩)
  | receives buf len a rep is someBytes _ _ ie =>
    exact .inr (.inl ⟨ie, .inr (.inl ⟨buf, len, a, rep, is, someBytes⟩)⟩)
  | sendEnds is _ ready ie =>
    refine .inr (.inr ⟨ie, ready, ?_⟩)
    rcases is with is | is | is | is | is <;> simp [is]
  | receiveEnds is _ ready ie =>
    refine .inr (.inr ⟨ie, ready, ?_⟩)
    rcases is with is | is | is | is <;> simp [is]

/-! One code per invocation. -/

/-- R175: the code of the last completion is released, or the interrupt is off. -/
def Released (s : State) : Prop := (s.cr.int && s.cr.ie) = false

theorem released_of_not_int {s : State} (noInt : s.cr.int = false) : Released s := by
  simp [Released, noInt]

theorem released_of_masked {s : State} (masked : s.cr.ie = false) : Released s := by
  simp [Released, masked]

/-- R277: what every callback operation but `Init` keeps. -/
theorem runCallbackOp_released {s : State} {op : CallbackOp} (notInit : ∀ speed a r, op ≠ .init speed a r)
    (released : Released s) : Ensures (runCallbackOp op s) Released := by
  cases op with
  | masterSendAsync _ _ _ _ => exact execMasterSendAsync_ensures released fun _ _ _ _ => released_of_not_int rfl
  | masterReceiveAsync _ _ _ _ => exact execMasterReceiveAsync_ensures released fun _ _ _ _ => released_of_not_int rfl
  | closeSend => exact execCloseSend_ensures fun _ => released_of_masked rfl
  | closeReceive => exact execCloseReceive_ensures fun _ => released_of_masked rfl
  | slaveSendByte _ => exact execSlaveSendByte_ensures (released_of_not_int rfl)
  | slaveReadByte _ => exact execSlaveReadByte_ensures (released_of_not_int rfl)
  | init speed a r => exact absurd rfl (notInit speed a r)
  | blocking => exact ensures_refused _ _
  | store _ _ | setGie _ => exact ensures_next released
  | noReturn => exact ensures_fault _ _

theorem runCallback_released {ops : List CallbackOp} {s : State}
    (notInit : ∀ op ∈ ops, ∀ speed a r, op ≠ .init speed a r) (released : Released s) :
    Ensures (runCallback ops s) Released := by
  induction ops generalizing s with
  | nil => exact ensures_next released
  | cons op rest ih =>
    obtain ⟨first, others⟩ := List.forall_mem_cons.1 notInit
    exact (runCallbackOp_released first released).andThen fun _ => ih others

theorem notify_released {ev : Event} {s : State} (noInit : CallbackWithoutInit s) (released : Released s) :
    Ensures (notify ev s) Released := by
  intro t goesOn
  obtain ⟨u, runs, rfl⟩ := notify_cases goesOn
  exact runCallback_released (s := beginDelivery ev s) noInit released u runs

theorem CallbackWithoutInit.congr {s t : State} (noInit : CallbackWithoutInit s) (same : t.callbacks = s.callbacks) :
    CallbackWithoutInit t := by
  unfold CallbackWithoutInit
  rw [State.nextCallback_congr same]
  exact noInit

theorem endTransmit_released {stop : Bool} {s : State} (noInit : CallbackWithoutInit s) :
    Ensures (endTransmit stop s) Released := by
  cases stop <;> exact notify_released (noInit.congr rfl) (released_of_masked rfl)

theorem endReceive_released {stop : Bool} {s : State} (noInit : CallbackWithoutInit s) :
    Ensures (endReceive stop s) Released := by
  cases stop <;> exact notify_released (noInit.congr rfl) (released_of_masked rfl)

theorem busErrorState_released (s : State) : Released (busErrorState s) := by
  refine released_of_not_int ?_
  by_cases closes : s.params.busErrorCloses = true
  · rw [busErrorState_of_closes closes]
    unfold closeBusySide
    split <;> rfl
  · rw [busErrorState_of_not_closes closes]
    rfl

/-- R175: every arm that a status code selects gives its command, or closes, or sees to it that its callback did. -/
theorem exec_status_released {i : Instr} {s : State} (status : (encode i).format = .status)
    (noInit : CallbackWithoutInit s) : Ensures (exec i s) Released := by
  cases i with
  | stBusError => exact notify_released (noInit.congr (busErrorState_callbacks s)) (busErrorState_released s)
  | stStart | stRstart => exact armStart_ensures fun _ => released_of_not_int rfl
  | stSlawAck | stTxdAckMore => exact handOver_ensures fun _ _ => released_of_not_int rfl
  | stSlawNack | stTxdAckLast | stTxdNack => exact guarded_ensures fun _ => endTransmit_released noInit
  | stSlarAck | stRxdAck => exact guarded_ensures fun _ => ensures_next (released_of_not_int rfl)
  | stSlarNack => exact guarded_ensures fun _ => endReceive_released noInit
  | stRxdNack => exact guarded_ensures fun _ => endReceive_released (noInit.congr rfl)
  | ssSlawAck => exact guarded_ensures fun _ => ensures_next (released_of_not_int rfl)
  | ssRxdAck | ssRxdNack | ssSlarAck | ssTxdAck =>
    exact guarded_ensures fun _ t delivers => released_of_not_int (deliverData_cases delivers).2
  | ssStopRs | ssTxdNack =>
    exact guarded_ensures fun _ => notify_released (noInit.congr rfl) (released_of_not_int rfl)
  | stArbLost | ssArbSlaw | ssGcall | ssArbGcall | ssGcRxdAck | ssGcRxdNack | ssArbSlar | ssTxlastAck | unassignedD0
  | unassignedD8 | unassignedE0 | unassignedE8 | unassignedF0 | stNoInfo => exact ensures_fault _ _
  | _ => cases status

/-- Settles O56: the step is a handler invocation, whose arm is one of format STATUS. -/
theorem oneCodePerInvocation : Obligations.OneCodePerInvocation := by
  unfold Obligations.OneCodePerInvocation
  intro s t noReset _ interrupt noInit steps
  rw [step_of_interrupt noReset interrupt] at steps
  have arm : Ensures (exec s.fetchArm (enterHandler s)) Released :=
    exec_status_released (armOf_encode _ _).2.1 (noInit.congr rfl)
  exact handlerStep_ensures (Q := Released) arm (fun _ released => released) t steps

end Sys2Proof.Machine
end

section
/-! PROOFS. The layer under the whole transactions: what ENV reads and writes and what software does, kept apart; the
steps of ENV that answer what is in flight; the bytes of a buffer; and the end of a transaction. -/

namespace Sys2Proof.Machine

/-! The two sides of a state. -/

/-- What a completion reads and writes (R71 to R78). -/
structure BusView where
  int : Bool
  pend : Pending
  stopFirst : Bool
  owned : Bool
  code : Code
  wire : List WireItem
  moves : List EnvMove

def State.bus (s : State) : BusView :=
  ⟨s.cr.int, s.env.pend, s.env.stopFirst, s.env.busOwned, s.sr.code, s.wire, s.envMoves⟩

/-- What HOST and the handler read and write, and ENV does not. -/
structure SoftView where
  inst : Inst
  mem : Memory
  host : HostCtl
  app : List AppMove
  events : List Event
  errors : List ErrorCode
  ie : Bool
  gie : Bool
  inHandler : Bool
  callbacks : List (List CallbackOp)
  halted : Bool
  portWord : Option (List Byte)
  turns : List Turn

def State.soft (s : State) : SoftView :=
  ⟨s.inst, s.mem, s.host, s.app, s.events, s.errors, s.cr.ie, s.gie, s.inHandler, s.callbacks, s.halted, s.portWord,
    s.turns⟩

/-- The eager schedule runs (R80): no turn is laid down, nothing stands on the register port, the block is not halted. -/
structure Eager (v : SoftView) : Prop where
  running : v.halted = false
  noPortWord : v.portWord = none
  turns : v.turns = []

theorem Eager.resetNotNext {s : State} (eager : Eager s.soft) : ResetNotNext s := by
  have turns : s.turns = [] := eager.turns
  simp [ResetNotNext, State.resetNext, turns]

/-- A command from a state with nothing in flight: its activity is in flight, and nothing queued before it. -/
theorem command_bus {s : State} {int owned : Bool} {c : Code} {wire : List WireItem} {moves : List EnvMove}
    (bus : s.bus = ⟨int, .none, false, owned, c, wire, moves⟩) (ea sta sto ie : Bool) (p : Pending) :
    (s.command ea sta sto ie p).bus = ⟨false, p, false, owned, c, wire, moves⟩ := by
  change { s.bus with
    int := false, pend := p, stopFirst := s.bus.stopFirst || decide (s.bus.pend = Pending.stop) } = _
  rw [bus]
  rfl

/-! The steps of ENV. -/

/-- ENV's move comes before HOST's and, with `CR.INT = 0`, no handler runs before it. -/
theorem step_env {s : State} {p : Pending} {stopFirst owned : Bool} {c : Code} {wire : List WireItem} {m : EnvMove}
    {moves : List EnvMove} (eager : Eager s.soft) (bus : s.bus = ⟨false, p, stopFirst, owned, c, wire, m :: moves⟩)
    (inFlight : p ≠ .none) : step s = .next (envStep m { s with envMoves := moves }) := by
  have next : s.envMoves = m :: moves := congrArg BusView.moves bus
  have pend : s.env.pend = p := congrArg BusView.pend bus
  rw [step_eq_agentMove ⟨eager.resetNotNext, eager.running, .inl (congrArg BusView.int bus), eager.noPortWord⟩,
    agentMove_eager_env eager.turns (State.envIsNext_iff.2 ⟨pend ▸ inFlight, by simp [next]⟩), envTurn_cons next]

section
variable {s : State} {owned ack : Bool} {c : Code} {wire : List WireItem} {d : Byte} {moves : List EnvMove}

/-- R72: START goes out. -/
theorem step_start (eager : Eager s.soft)
    (bus : s.bus = ⟨false, .start, false, owned, c, wire, .reply ack d :: moves⟩) :
    ∃ t, step s = .next t ∧ t.soft = s.soft ∧
      t.bus = ⟨true, .none, false, true, if owned then Status.rstart else Status.start,
        wire ++ [if owned then .rstart else .start], moves⟩ := by
  refine ⟨_, step_env eager bus nofun, ?_⟩
  simp only [State.bus, BusView.mk.injEq] at bus
  obtain ⟨int, pend, stopFirst, busOwned, -, onWire, -⟩ := bus
  rw [envStep_reply_start (by exact int) (by exact stopFirst) (by exact pend), ← busOwned, ← onWire]
  refine ⟨rfl, ?_⟩
  simp [State.bus, State.startServed, stopFirst]

/-- R73, R74: a byte goes out and is answered. -/
theorem step_tx {b : Byte} {answer : Code} (eager : Eager s.soft)
    (bus : s.bus = ⟨false, .tx b, false, owned, c, wire, .reply ack d :: moves⟩)
    (answers : txAnswer c s.cr.ea b ack = some answer) :
    ∃ t, step s = .next t ∧ t.soft = s.soft ∧
      t.bus = ⟨true, .none, false, owned, answer, wire ++ [.tx b ack], moves⟩ := by
  refine ⟨_, step_env eager bus nofun, ?_⟩
  simp only [State.bus, BusView.mk.injEq] at bus
  obtain ⟨int, pend, stopFirst, busOwned, code, onWire, -⟩ := bus
  rw [envStep_reply_tx (by exact int) (by exact stopFirst) (by exact pend) (by rw [← code] at answers; exact answers),
    ← busOwned, ← onWire]
  refine ⟨rfl, ?_⟩
  simp [State.bus, stopFirst]

/-- R75: a byte comes in and is answered by `CR.EA`. -/
theorem step_rx (eager : Eager s.soft) (bus : s.bus = ⟨false, .rx, false, owned, c, wire, .reply ack d :: moves⟩)
    (phase : c = Status.slarAck ∨ c = Status.rxdAck) :
    ∃ t, step s = .next t ∧ t.soft = s.soft ∧ t.dr = d ∧
      t.bus = ⟨true, .none, false, owned, if s.cr.ea then Status.rxdAck else Status.rxdNack,
        wire ++ [.rx d s.cr.ea], moves⟩ := by
  refine ⟨_, step_env eager bus nofun, ?_⟩
  simp only [State.bus, BusView.mk.injEq] at bus
  obtain ⟨int, pend, stopFirst, busOwned, code, onWire, -⟩ := bus
  rw [envStep_reply_rx (by exact int) (by exact stopFirst) (by exact pend) (by rw [← code] at phase; exact phase),
    ← busOwned, ← onWire]
  refine ⟨rfl, rfl, ?_⟩
  simp [State.bus, stopFirst]

/-- R78: STOP goes out, in the master role. -/
theorem step_stop (eager : Eager s.soft) (bus : s.bus = ⟨false, .stop, false, owned, c, wire, .reply ack d :: moves⟩)
    (master : s.inst.cfg.role = .master) (loud : s.env.stopSilent = false) :
    ∃ t, step s = .next t ∧ t.soft = s.soft ∧
      t.bus = ⟨false, .none, false, false, Status.noInfo, wire ++ [.stop], moves⟩ := by
  refine ⟨_, step_env eager bus nofun, ?_⟩
  simp only [State.bus, BusView.mk.injEq] at bus
  obtain ⟨int, pend, stopFirst, -, -, onWire, -⟩ := bus
  rw [envStep_reply_stop (by exact int) (.inl (by exact pend)), ← onWire]
  refine ⟨rfl, ?_⟩
  simp [State.bus, State.stopServed, State.pendAfterStop, stopFirst, master, loud, int]

end

/-! Runs, put together. -/

theorem run_one {s t : State} (steps : step s = .next t) : Host.Core.run Sys2Proof.core 1 s = .next t :=
  run_succ_of_step steps

theorem run_two {s t u : State} (first : step s = .next t) (second : step t = .next u) :
    Host.Core.run Sys2Proof.core 2 s = .next u := by
  rw [run_succ_of_step first, run_one second]

theorem run_trans {m n : Nat} {s t u : State} (first : Host.Core.run Sys2Proof.core m s = .next t)
    (second : Host.Core.run Sys2Proof.core n t = .next u) : Host.Core.run Sys2Proof.core (m + n) s = .next u :=
  (run_add n first).trans second

/-! The end of a transaction: STOP unless a repeated start was asked for. -/

/-- The transaction is over, with the bus kept if `rep`, else with its STOP in flight. -/
structure Ended (rep : Bool) (wire : List WireItem) (moves : List EnvMove) (t : State) : Prop where
  eager : Eager t.soft
  master : t.inst.cfg.role = .master
  loud : rep = false → t.env.stopSilent = false
  bus : ∃ c, t.bus = ⟨rep, if rep then .none else .stop, false, true, c, wire, moves⟩

theorem Ended.run {rep : Bool} {wire : List WireItem} {more : List EnvMove} {t : State}
    (ended : Ended rep wire ((if rep then [] else acknowledging 1) ++ more) t) :
    ∃ u, Host.Core.run Sys2Proof.core (if rep then 0 else 1) t = .next u ∧ u.soft = t.soft ∧ u.cr.int = rep ∧
      u.env.busOwned = rep ∧ u.wire = wire ++ (if rep then [] else [.stop]) ∧ u.envMoves = more := by
  obtain ⟨eager, master, loud, c, bus⟩ := ended
  cases rep with
  | true =>
    exact ⟨t, run_zero t, rfl, congrArg BusView.int bus, congrArg BusView.owned bus,
      (congrArg BusView.wire bus).trans (List.append_nil _).symm, congrArg BusView.moves bus⟩
  | false =>
    obtain ⟨u, steps, soft, bus⟩ := step_stop eager bus master (loud rfl)
    exact ⟨u, run_one steps, soft, congrArg BusView.int bus, congrArg BusView.owned bus, congrArg BusView.wire bus,
      congrArg BusView.moves bus⟩

/-- R78: a STOP commanded in the master role after a code other than bus error goes on the wire. -/
theorem State.stopIsSilent_eq_false {s : State} (master : s.inst.cfg.role = .master)
    (noError : s.sr.code ≠ Status.busError) : s.stopIsSilent = false := by
  simp [stopIsSilent, master, noError]

/-! The bytes of a buffer. -/

/-- A buffer with a byte left in it does not wrap. -/
def InRange (buf : Ptr) (len : Len) : Prop := len ≠ 0#16 → buf ≠ null ∧ buf.toNat + len.toNat ≤ 65536

theorem BufferFits.inRange {buf : Ptr} {len : Len} (fits : BufferFits buf len) : InRange buf len :=
  range_of_bufferRefusal_none (bufferFits_iff.1 fits)

theorem InRange.rest {buf : Ptr} {len : Len} (range : InRange buf len) (someLeft : len ≠ 0#16) :
    InRange (buf + 1#16) (len - 1#16) :=
  range_rest someLeft (range someLeft).2

theorem toNat_sub_one {len : Len} {n : Nat} (length : n + 1 = len.toNat) : n = (len - 1#16).toNat := by
  bv_omega

theorem ne_zero_of_length {len : Len} {n : Nat} (length : n + 1 = len.toNat) : len ≠ 0#16 := by
  rintro rfl
  simp at length

theorem bufferBytes_succ (m : Memory) (p n : Nat) :
    bufferBytes m p (n + 1) = m.read p :: bufferBytes m (p + 1) n := by
  simp only [bufferBytes, List.range_succ_eq_map, List.map_cons, List.map_map, Nat.add_zero, List.cons.injEq, true_and]
  exact List.map_congr_left fun k _ => congrArg m.read (Nat.add_right_comm p k 1)

/-- R61: the first byte of a buffer, then the bytes of the rest. -/
theorem bufferBytes_cons (m : Memory) {buf : Ptr} {len : Len} (range : InRange buf len) (someLeft : len ≠ 0#16) :
    bufferBytes m buf.toNat len.toNat =
      m.read buf.toNat :: bufferBytes m (buf + 1#16).toNat (len - 1#16).toNat := by
  have counted : len.toNat = (len - 1#16).toNat + 1 := by bv_omega
  rw [counted, bufferBytes_succ]
  rcases Nat.eq_zero_or_pos (len - 1#16).toNat with none | some
  · rw [none]
    rfl
  · have inside := (range someLeft).2
    have advanced : (buf + 1#16).toNat = buf.toNat + 1 := by bv_omega
    rw [advanced]

/-- The bytes stored at a buffer, one after another (R214, R216). -/
def storeBytes (m : Memory) (buf : Ptr) : List Byte → Memory
  | [] => m
  | b :: rest => storeBytes (m.write buf.toNat b) (buf + 1#16) rest

/-- R216: the bytes stored are read at the buffer in order, and every other byte is as before. -/
theorem read_storeBytes {m : Memory} (wf : m.wf = true) {buf : Ptr} {bytes : List Byte}
    (range : buf.toNat + bytes.length ≤ 65536) (k : Nat) :
    (storeBytes m buf bytes).read k =
      if buf.toNat ≤ k then bytes[k - buf.toNat]?.getD (m.read k) else m.read k := by
  induction bytes generalizing m buf with
  | nil => simp [storeBytes]
  | cons b rest ih =>
    rw [List.length_cons] at range
    cases rest with
    | nil =>
      rw [storeBytes, storeBytes, Memory.read_write wf]
      grind
    | cons b' rest =>
      have advanced : (buf + 1#16).toNat = buf.toNat + 1 := by
        rw [List.length_cons] at range
        bv_omega
      rw [storeBytes, ih (Memory.wf_write wf buf b) (by omega), advanced, Memory.read_write wf]
      grind

theorem bufferBytes_storeBytes {m : Memory} (wf : m.wf = true) {buf : Ptr} {bytes : List Byte}
    (range : buf.toNat + bytes.length ≤ 65536) :
    bufferBytes (storeBytes m buf bytes) buf.toNat bytes.length = bytes := by
  apply List.ext_getElem
  · simp [bufferBytes]
  · intro k _ inside
    simp [bufferBytes, read_storeBytes wf range, inside]

theorem read_storeBytes_outside {m : Memory} (wf : m.wf = true) {buf : Ptr} {bytes : List Byte}
    (range : buf.toNat + bytes.length ≤ 65536) {k : Nat} (outside : k < buf.toNat ∨ buf.toNat + bytes.length ≤ k) :
    (storeBytes m buf bytes).read k = m.read k := by
  rw [read_storeBytes wf range]
  grind

/-- The wire entries of received bytes: ACK for all but the last (R97, R152, R216). -/
def received (bytes : List Byte) : List WireItem :=
  bytes.mapIdx fun k b => WireItem.rx b (decide (k + 1 < bytes.length))

theorem received_cons (b : Byte) (bytes : List Byte) :
    received (b :: bytes) = .rx b (decide (1 < bytes.length + 1)) :: received bytes := by
  simp [received, List.mapIdx_cons]

end Sys2Proof.Machine
end

section
/-! PROOFS. The phases that every transaction of a master has, whoever drives it (HOST in the blocking transactor, the
handler in an asynchronous one): START and address, the bytes of a send, the bytes of a receive. -/

namespace Sys2Proof.Machine

/-! The command that begins a transaction. -/

section
variable {s : State} {w : List Byte} {moves : List EnvMove}

theorem Poised.eagerly (poised : Poised s w moves) : Eager s.soft :=
  ⟨poised.running, poised.noPortWord, poised.eager⟩

theorem Poised.bus (poised : Poised s w moves) :
    s.bus = ⟨s.cr.int, .none, false, s.env.busOwned, s.sr.code, s.wire, moves⟩ := by
  simp [State.bus, poised.quiet, poised.moves]

/-- R107: the step runs the command on the port. -/
theorem Poised.issues {i : Instr} (poised : Poised s (encode i).bytes moves) (port : (encode i).format = .hostcmd)
    (wellFormed : i.wellFormed = true) : step s = exec i { s with app := [] } := by
  have decodes := Laws.RoundTrip.every i wellFormed []
  rw [port, List.append_nil] at decodes
  rw [step_eq_agentMove ⟨poised.eagerly.resetNotNext, poised.running, .inr (.inl poised.masked), poised.noPortWord⟩,
    agentMove_eager_host poised.eager (State.envIsNext_eq_false (.inl poised.quiet.1)),
    hostTurn_command poised.idle poised.word]
  exact issueWord_ok decodes _

theorem Poised.blockingAllowed (poised : Poised s w moves) : BlockingAllowed { s with app := [] } :=
  ⟨poised.enabled, poised.noHandler, poised.noDelivery, poised.master, poised.ready, .inl poised.masked⟩

theorem Poised.entryAllowed (poised : Poised s w moves) {a : Byte} (range : a.toNat ≤ 0x7F) :
    EntryAllowed a { s with app := [] } :=
  ⟨poised.enabled, poised.master, range⟩

end

/-! START and the address (R72, R73). -/

/-- Three steps: START goes out, its driver hands the address byte over, the address is acknowledged. -/
theorem address_phase {t : State} {addressing : SoftView} {a : Addr7} {d : Dir} {owned : Bool} {c : Code}
    {wire : List WireItem} {moves : List EnvMove} (eager : Eager t.soft) (eager' : Eager addressing)
    (bus : t.bus = ⟨false, .start, false, owned, c, wire, acknowledging 2 ++ moves⟩)
    (drives : ∀ u c wire, u.soft = t.soft → (c = Status.start ∨ c = Status.rstart) →
      u.bus = ⟨true, .none, false, true, c, wire, acknowledging 1 ++ moves⟩ →
      ∃ v, step u = .next v ∧ v.soft = addressing ∧
        v.bus = ⟨false, .tx (addrByteOf a d), false, true, c, wire, acknowledging 1 ++ moves⟩) :
    ∃ u, Host.Core.run Sys2Proof.core 3 t = .next u ∧ u.soft = addressing ∧
      u.bus = ⟨true, .none, false, true, addressAck d,
        wire ++ [if owned then .rstart else .start, .tx (addrByteOf a d) true], moves⟩ := by
  obtain ⟨u, started, uSoft, uBus⟩ := step_start eager bus
  have startSent : (if owned then Status.rstart else Status.start) = Status.start ∨
      (if owned then Status.rstart else Status.start) = Status.rstart := by cases owned <;> simp
  obtain ⟨v, addressed, vSoft, vBus⟩ := drives u _ _ uSoft startSent uBus
  have acked : txAnswer (if owned then Status.rstart else Status.start) v.cr.ea (addrByteOf a d) true =
      some (addressAck d) := by
    rw [txAnswer_address startSent, addrByteOf_direction]
    cases d <;> rfl
  obtain ⟨w, answered, wSoft, wBus⟩ := step_tx (vSoft ▸ eager') vBus acked
  refine ⟨w, ?_, wSoft.trans vSoft, wBus.trans (by simp)⟩
  rw [run_succ_of_step started, run_succ_of_step addressed, run_succ_of_step answered, run_zero]

/-! The bytes of a send (R187 to R192, R151). -/

/-- R74: the code that answers a data byte. -/
def dataAnswer (ack : Bool) : Code := if ack then Status.txdAck else Status.txdNack

/-- R133, R134: the codes after which a data byte is answered by its acknowledge. -/
def Writing (c : Code) : Prop := c = Status.slawAck ∨ c = Status.txdAck ∨ c = Status.slawNack ∨ c = Status.txdNack

theorem dataAnswer_writing (ack : Bool) : Writing (dataAnswer ack) := by
  cases ack <;> simp [dataAnswer, Writing]

/-- Of a send, the first byte is in flight and `len` bytes at `buf` are left. For each byte two steps: it is answered, and
its driver hands over the next one, or ends the transaction. -/
theorem send_phase {View : Ptr → Len → SoftView} {sent : SoftView} {m : Memory} {rep : Bool} {Answered : Code → Prop}
    {more : List EnvMove} (eager : ∀ buf len, Eager (View buf len))
    (drives : ∀ t buf len c wire moves, t.soft = View buf len → InRange buf len → len ≠ 0#16 → Answered c →
      t.bus = ⟨true, .none, false, true, c, wire, moves⟩ →
      ∃ v, step t = .next v ∧ v.soft = View (buf + 1#16) (len - 1#16) ∧
        v.bus = ⟨false, .tx (m.read buf.toNat), false, true, c, wire, moves⟩)
    (ends : ∀ t buf c wire, t.soft = View buf 0#16 → Answered c →
      t.bus = ⟨true, .none, false, true, c, wire, more⟩ →
      ∃ u, step t = .next u ∧ u.soft = sent ∧ Ended rep wire more u)
    (ack : Bool) (acks : List Bool) {t : State} {buf : Ptr} {len : Len} {b : Byte} {c : Code} {wire : List WireItem}
    (soft : t.soft = View buf len) (range : InRange buf len) (length : acks.length = len.toNat) (writing : Writing c)
    (answered : ∀ k ∈ ack :: acks, Answered (dataAnswer k))
    (bus : t.bus = ⟨false, .tx b, false, true, c, wire, answering (ack :: acks) ++ more⟩) :
    ∃ u, Host.Core.run Sys2Proof.core (2 * (acks.length + 1)) t = .next u ∧ u.soft = sent ∧
      Ended rep (wire ++ .tx b ack :: List.zipWith WireItem.tx (bufferBytes m buf.toNat len.toNat) acks) more u := by
  induction acks generalizing ack t buf len b c wire with
  | nil =>
    obtain rfl : len = 0#16 := BitVec.eq_of_toNat_eq length.symm
    obtain ⟨u, answers, uSoft, uBus⟩ := step_tx (soft ▸ eager buf _) bus (txAnswer_data writing _ b ack)
    obtain ⟨v, last, vSoft, ended⟩ := ends u buf _ _ (uSoft.trans soft) (answered ack (by simp)) uBus
    exact ⟨v, run_two answers last, vSoft, ended⟩
  | cons next acks ih =>
    have someLeft := ne_zero_of_length length
    obtain ⟨u, answers, uSoft, uBus⟩ := step_tx (soft ▸ eager buf len) bus (txAnswer_data writing _ b ack)
    obtain ⟨v, sends, vSoft, vBus⟩ :=
      drives u buf len _ _ _ (uSoft.trans soft) range someLeft (answered ack (by simp)) uBus
    obtain ⟨w, runs, wSoft, ended⟩ := ih next vSoft (range.rest someLeft) (toNat_sub_one length)
      (dataAnswer_writing ack) (fun k other => answered k (List.mem_cons_of_mem _ other)) vBus
    refine ⟨w, ?_, wSoft, ?_⟩
    · have counted : 2 * ((next :: acks).length + 1) = 2 + 2 * (acks.length + 1) := by
        rw [List.length_cons]
        omega
      exact counted ▸ run_trans (run_two answers sends) runs
    · rw [bufferBytes_cons m range someLeft, List.zipWith_cons_cons]
      simpa using ended

/-! The bytes of a receive (R212 to R216, R152). -/

/-- Of a receive, a byte is armed and `len` bytes are to come to `buf`. For each byte two steps: it comes in and is answered,
ACK while more are to come, and its driver stores it and arms the next one, or ends the transaction. -/
theorem receive_phase {View : Memory → Ptr → Len → SoftView} {Received : Memory → SoftView} {rep : Bool}
    {more : List EnvMove} (eager : ∀ m buf len, Eager (View m buf len))
    (drives : ∀ t m buf len wire moves, t.soft = View m buf len → InRange buf len → len ≠ 0#16 → len - 1#16 ≠ 0#16 →
      t.bus = ⟨true, .none, false, true, Status.rxdAck, wire, moves⟩ →
      ∃ v, step t = .next v ∧ v.soft = View (m.write buf.toNat t.dr) (buf + 1#16) (len - 1#16) ∧
        v.cr.ea = ackFor (len - 1#16) ∧ v.bus = ⟨false, .rx, false, true, Status.rxdAck, wire, moves⟩)
    (ends : ∀ t m buf wire, t.soft = View m buf 1#16 → InRange buf 1#16 →
      t.bus = ⟨true, .none, false, true, Status.rxdNack, wire, more⟩ →
      ∃ u, step t = .next u ∧ u.soft = Received (m.write buf.toNat t.dr) ∧ Ended rep wire more u)
    (b : Byte) (bytes : List Byte) {t : State} {m : Memory} {buf : Ptr} {len : Len} {c : Code} {wire : List WireItem}
    (soft : t.soft = View m buf len) (range : InRange buf len) (length : bytes.length + 1 = len.toNat)
    (ea : t.cr.ea = ackFor len) (phase : c = Status.slarAck ∨ c = Status.rxdAck)
    (bus : t.bus = ⟨false, .rx, false, true, c, wire, yielding (b :: bytes) ++ more⟩) :
    ∃ u, Host.Core.run Sys2Proof.core (2 * (bytes.length + 1)) t = .next u ∧
      u.soft = Received (storeBytes m buf (b :: bytes)) ∧ Ended rep (wire ++ received (b :: bytes)) more u := by
  induction bytes generalizing b t m buf len c wire with
  | nil =>
    obtain rfl : len = 1#16 := BitVec.eq_of_toNat_eq length.symm
    obtain ⟨u, comes, uSoft, dr, uBus⟩ := step_rx (soft ▸ eager m buf _) bus phase
    rw [ea] at uBus
    obtain ⟨v, last, vSoft, ended⟩ := ends u m buf _ (uSoft.trans soft) range uBus
    rw [dr] at vSoft
    exact ⟨v, run_two comes last, vSoft, ended⟩
  | cons next bytes ih =>
    have someLeft := ne_zero_of_length length
    have lengthRest : bytes.length + 1 = (len - 1#16).toNat := toNat_sub_one length
    have acked : ackFor len = true := by simp [ackFor, ← length]
    obtain ⟨u, comes, uSoft, dr, uBus⟩ := step_rx (soft ▸ eager m buf len) bus phase
    rw [ea, acked] at uBus
    obtain ⟨v, stores, vSoft, vEa, vBus⟩ :=
      drives u m buf len _ _ (uSoft.trans soft) range someLeft (ne_zero_of_length lengthRest) uBus
    rw [dr] at vSoft
    obtain ⟨w, runs, wSoft, ended⟩ := ih next vSoft (range.rest someLeft) lengthRest vEa (.inr rfl) vBus
    refine ⟨w, ?_, wSoft, ?_⟩
    · have counted : 2 * ((next :: bytes).length + 1) = 2 + 2 * (bytes.length + 1) := by
        rw [List.length_cons]
        omega
      exact counted ▸ run_trans (run_two comes stores) runs
    · rw [received_cons]
      simpa using ended

end Sys2Proof.Machine
end

section
/-! PROOFS. The blocking transactions run to their end (R151, R152): HOST drives the phases. -/

namespace Sys2Proof.Machine

/-- The command, the address phase, the data phase and the end, one after another. -/
theorem run_transaction {s t u v x : State} {n k : Nat} (begins : step s = .next t)
    (addressed : Host.Core.run Sys2Proof.core 3 t = .next u)
    (data : Host.Core.run Sys2Proof.core (2 * n + 1) u = .next v)
    (ends : Host.Core.run Sys2Proof.core k v = .next x) :
    Host.Core.run Sys2Proof.core (1 + 2 * (n + 2) + k) s = .next x := by
  have counted : 1 + 2 * (n + 2) + k = 1 + (3 + ((2 * n + 1) + k)) := by omega
  exact counted ▸ run_trans (run_one begins) (run_trans addressed (run_trans data ends))

/-- During a blocking transaction HOST's place, memory and the commands still to come are all that software changes. -/
def blockingView (s : State) (m : Memory) (h : HostCtl) : SoftView := { s.soft with mem := m, host := h, app := [] }

theorem finishTransaction_soft (rep : Bool) (s : State) :
    (finishTransaction rep s).soft = { s.soft with host := .idle } := by
  cases rep <;> rfl

/-- R151, R152: the end of a blocking transaction. -/
theorem finishTransaction_ended {t : State} {c : Code} {wire : List WireItem} {moves : List EnvMove}
    (eager : Eager t.soft) (master : t.inst.cfg.role = .master) (noError : c ≠ Status.busError)
    (bus : t.bus = ⟨true, .none, false, true, c, wire, moves⟩) (rep : Bool) :
    Ended rep wire moves (finishTransaction rep t) := by
  have code : t.sr.code = c := congrArg BusView.code bus
  cases rep with
  | true => exact ⟨⟨eager.running, eager.noPortWord, eager.turns⟩, master, nofun, c, bus⟩
  | false =>
    have loud := State.stopIsSilent_eq_false master (code ▸ noError)
    exact ⟨⟨eager.running, eager.noPortWord, eager.turns⟩, master, fun _ => loud, c, command_bus bus _ _ _ _ _⟩

section
variable {s : State} {w : List Byte} {moves₀ : List EnvMove} (poised : Poised s w moves₀)
include poised

theorem Poised.blockingView_eager (m : Memory) (h : HostCtl) : Eager (blockingView s m h) :=
  ⟨poised.running, poised.noPortWord, poised.eager⟩

/-- R130: with CR.IE = 0 a completion is HOST's to take. -/
theorem Poised.step_blocking {t : State} {m : Memory} {h : HostCtl} {int owned : Bool} {c : Code}
    {wire : List WireItem} {moves : List EnvMove} (soft : t.soft = blockingView s m h)
    (bus : t.bus = ⟨int, .none, false, owned, c, wire, moves⟩) : step t = hostTurn t := by
  have eager : Eager t.soft := soft ▸ poised.blockingView_eager m h
  have masked : t.cr.ie = false := (congrArg SoftView.ie soft).trans poised.masked
  rw [step_eq_agentMove ⟨eager.resetNotNext, eager.running, .inr (.inl masked), eager.noPortWord⟩,
    agentMove_eager_host eager.turns (State.envIsNext_eq_false (.inl (congrArg BusView.pend bus)))]

theorem Poised.master_of_blocking {t : State} {m : Memory} {h : HostCtl} (soft : t.soft = blockingView s m h) :
    t.inst.cfg.role = .master :=
  (congrArg (fun v => v.inst.cfg.role) soft).trans poised.master

/-- The end of a blocking transaction, at HOST's step. -/
theorem Poised.finishes {t : State} {m : Memory} {h : HostCtl} {c : Code} {wire : List WireItem}
    {moves : List EnvMove} (soft : t.soft = blockingView s m h) (noError : c ≠ Status.busError)
    (bus : t.bus = ⟨true, .none, false, true, c, wire, moves⟩) (rep : Bool) :
    (finishTransaction rep t).soft = blockingView s m .idle ∧ Ended rep wire moves (finishTransaction rep t) := by
  refine ⟨?_, finishTransaction_ended (soft ▸ poised.blockingView_eager m h) (poised.master_of_blocking soft) noError bus
    rep⟩
  rw [finishTransaction_soft, soft]
  rfl

/-- R133, R151, R152: START and address of a blocking transaction. -/
theorem Poised.blocking_address {t : State} {h h' : HostCtl} {a : Addr7} {d : Dir} {owned : Bool} {c : Code}
    {wire : List WireItem} {moves : List EnvMove} (soft : t.soft = blockingView s s.mem h)
    (bus : t.bus = ⟨false, .start, false, owned, c, wire, acknowledging 2 ++ moves⟩)
    (next : ∀ u : State, u.host = h → u.cr.int = true → isStartSent u.sr.code = true → hostTurn u = .next
      (({ u with dr := addrByteOf a d }.command u.cr.ea false false u.cr.ie (.tx (addrByteOf a d))).hold h')) :
    ∃ u, Host.Core.run Sys2Proof.core 3 t = .next u ∧ u.soft = blockingView s s.mem h' ∧
      u.bus = ⟨true, .none, false, true, addressAck d,
        wire ++ [if owned then .rstart else .start, .tx (addrByteOf a d) true], moves⟩ := by
  refine address_phase (soft ▸ poised.blockingView_eager _ _) (poised.blockingView_eager _ h') bus
    fun u c wire uSoft started uBus => ?_
  have uView := uSoft.trans soft
  have code : u.sr.code = c := congrArg BusView.code uBus
  have goesOn := next u (congrArg SoftView.host uView) (congrArg BusView.int uBus) (isStartSent_iff.2 (code ▸ started))
  refine ⟨_, (poised.step_blocking uView uBus).trans goesOn, ?_, ?_⟩
  · change { u.soft with host := h' } = _
    rw [uView]
    rfl
  · exact command_bus (s := { u with dr := addrByteOf a d }) uBus _ _ _ _ _

/-- R151: HOST hands a byte of the buffer over. -/
theorem Poised.blocking_byte {t : State} {h : HostCtl} {buf : Ptr} {len : Len} {rep : Bool} {c : Code}
    {wire : List WireItem} {moves : List EnvMove} (soft : t.soft = blockingView s s.mem h) (someLeft : len ≠ 0#16)
    (bus : t.bus = ⟨true, .none, false, true, c, wire, moves⟩) (next : hostTurn t = sendNext buf len rep t) :
    ∃ v, step t = .next v ∧ v.soft = blockingView s s.mem (.sendByte (buf + 1#16) (len - 1#16) rep) ∧
      v.bus = ⟨false, .tx (s.mem.read buf.toNat), false, true, c, wire, moves⟩ := by
  have byte : t.byteAt buf = s.mem.read buf.toNat := congrArg (fun v => v.mem.read buf.toNat) soft
  have sends := next.trans (sendNext_byte someLeft (congrArg BusView.int bus) buf rep)
  rw [byte] at sends
  refine ⟨_, (poised.step_blocking soft bus).trans sends, ?_, ?_⟩
  · change { t.soft with host := HostCtl.sendByte (buf + 1#16) (len - 1#16) rep } = _
    rw [soft]
    rfl
  · exact command_bus (s := { t with dr := s.mem.read buf.toNat }) bus _ _ _ _ _

/-- R151: the data phase of a blocking send, from its acknowledged address. -/
theorem Poised.blocking_send {t : State} {buf : Ptr} {len : Len} {rep : Bool} {acks : List Bool}
    {wire : List WireItem} {more : List EnvMove} (soft : t.soft = blockingView s s.mem (.sendAddress buf len rep))
    (range : InRange buf len) (length : acks.length = len.toNat)
    (bus : t.bus = ⟨true, .none, false, true, Status.slawAck, wire, answering acks ++ more⟩) :
    ∃ u, Host.Core.run Sys2Proof.core (2 * len.toNat + 1) t = .next u ∧ u.soft = blockingView s s.mem .idle ∧
      Ended rep (wire ++ List.zipWith WireItem.tx (bufferBytes s.mem buf.toNat len.toNat) acks) more u := by
  have int : t.cr.int = true := congrArg BusView.int bus
  have next : hostTurn t = sendNext buf len rep t :=
    hostTurn_sendAddress (congrArg SoftView.host soft) int (congrArg BusView.code bus)
  cases acks with
  | nil =>
    obtain rfl : len = 0#16 := BitVec.eq_of_toNat_eq length.symm
    have ends : step t = .next (finishTransaction rep t) := by
      rw [poised.step_blocking soft bus, next, sendNext_end]
    have finished := poised.finishes soft (by decide) bus rep
    rw [List.zipWith_nil_right, List.append_nil]
    exact ⟨_, run_one ends, finished⟩
  | cons ack acks =>
    have someLeft := ne_zero_of_length length
    obtain ⟨v, first, vSoft, vBus⟩ := poised.blocking_byte soft someLeft bus next
    obtain ⟨u, runs, uSoft, ended⟩ := send_phase (m := s.mem) (rep := rep) (more := more)
      (View := fun buf len => blockingView s s.mem (.sendByte buf len rep)) (sent := blockingView s s.mem .idle)
      (Answered := fun c => ∃ k, c = dataAnswer k) (fun _ _ => poised.blockingView_eager _ _)
      (fun t buf len c wire moves soft _ someLeft _ bus => poised.blocking_byte soft someLeft bus
        (hostTurn_sendByte (congrArg SoftView.host soft) (congrArg BusView.int bus)))
      (fun t buf c wire soft ⟨k, answer⟩ bus => by
        refine ⟨_, ?_, poised.finishes soft (by rw [answer]; cases k <;> decide) bus rep⟩
        rw [poised.step_blocking soft bus,
          hostTurn_sendByte (congrArg SoftView.host soft) (congrArg BusView.int bus), sendNext_end])
      ack acks vSoft (range.rest someLeft) (toNat_sub_one length) (.inl rfl) (fun k _ => ⟨k, rfl⟩) vBus
    refine ⟨u, ?_, uSoft, ?_⟩
    · have counted : 2 * len.toNat + 1 = 1 + 2 * (acks.length + 1) := by
        rw [← length, List.length_cons]
        omega
      exact counted ▸ run_trans (run_one first) runs
    · rwa [bufferBytes_cons s.mem range someLeft, List.zipWith_cons_cons]

/-- R152: the data phase of a blocking receive, from its acknowledged address. -/
theorem Poised.blocking_receive {t : State} {buf : Ptr} {len : Len} {rep : Bool} {bytes : List Byte}
    {wire : List WireItem} {more : List EnvMove} (soft : t.soft = blockingView s s.mem (.receiveAddress buf len rep))
    (range : InRange buf len) (length : bytes.length = len.toNat)
    (bus : t.bus = ⟨true, .none, false, true, Status.slarAck, wire, yielding bytes ++ more⟩) :
    ∃ u, Host.Core.run Sys2Proof.core (2 * len.toNat + 1) t = .next u ∧
      u.soft = blockingView s (storeBytes s.mem buf bytes) .idle ∧ Ended rep (wire ++ received bytes) more u := by
  have int : t.cr.int = true := congrArg BusView.int bus
  have next : hostTurn t = receiveNext buf len rep t :=
    hostTurn_receiveAddress (congrArg SoftView.host soft) int (congrArg BusView.code bus)
  cases bytes with
  | nil =>
    obtain rfl : len = 0#16 := BitVec.eq_of_toNat_eq length.symm
    have ends : step t = .next (finishTransaction rep t) := by
      rw [poised.step_blocking soft bus, next, receiveNext_end]
    have finished := poised.finishes soft (by decide) bus rep
    refine ⟨_, run_one ends, finished.1, ?_⟩
    exact (List.append_nil wire).symm ▸ finished.2
  | cons b bytes =>
    have someLeft := ne_zero_of_length length
    have arms : step t = .next ((cmdArm (ackFor len) t).hold (.receiveByte buf len rep)) := by
      rw [poised.step_blocking soft bus, next, receiveNext_byte someLeft]
    have armedSoft : ((cmdArm (ackFor len) t).hold (.receiveByte buf len rep)).soft =
        blockingView s s.mem (.receiveByte buf len rep) := by
      change { t.soft with host := HostCtl.receiveByte buf len rep } = _
      rw [soft]
      rfl
    obtain ⟨u, runs, uSoft, ended⟩ := receive_phase (rep := rep) (more := more)
      (View := fun m buf len => blockingView s m (.receiveByte buf len rep))
      (Received := fun m => blockingView s m .idle) (fun _ _ _ => poised.blockingView_eager _ _)
      (fun t m buf len wire moves soft _ _ moreLeft bus => by
        have mem : t.mem = m := congrArg SoftView.mem soft
        have stores := (hostTurn_receiveByte (congrArg SoftView.host soft) (congrArg BusView.int bus)).trans
          (receiveNext_byte moreLeft _ _ _)
        refine ⟨_, (poised.step_blocking soft bus).trans stores, ?_, rfl, ?_⟩
        · change { t.soft with
            mem := t.mem.write buf.toNat t.dr, host := HostCtl.receiveByte (buf + 1#16) (len - 1#16) rep } = _
          rw [soft, mem]
          rfl
        · exact command_bus (s := t.storeAt buf t.dr) bus _ _ _ _ _)
      (fun t m buf wire soft _ bus => by
        have mem : t.mem = m := congrArg SoftView.mem soft
        have stored : (t.storeAt buf t.dr).soft =
            blockingView s (m.write buf.toNat t.dr) (.receiveByte buf 1#16 rep) := by
          change { t.soft with mem := t.mem.write buf.toNat t.dr } = _
          rw [soft, mem]
          rfl
        refine ⟨_, ?_, poised.finishes stored (by decide) bus rep⟩
        rw [poised.step_blocking soft bus,
          hostTurn_receiveByte (congrArg SoftView.host soft) (congrArg BusView.int bus)]
        exact receiveNext_end _ rep _)
      b bytes armedSoft range length rfl (.inl rfl) (command_bus bus _ _ _ _ _)
    refine ⟨u, ?_, uSoft, ended⟩
    have counted : 2 * len.toNat + 1 = 1 + 2 * (bytes.length + 1) := by
      rw [← length, List.length_cons]
      omega
    exact counted ▸ run_trans (run_one arms) runs

end

/-- Settles O27: the command, the address phase, the data phase and the STOP, by `run_transaction`. -/
theorem blockingSendRun : Obligations.BlockingSendRun := by
  unfold Obligations.BlockingSendRun
  intro s buf len a rep acks more poised order range fits length
  rw [List.append_assoc, List.append_assoc] at poised
  have begins := poised.issues rfl (sevenBit_iff.2 range)
  rw [exec_masterSend poised.blockingAllowed range fits order] at begins
  have held : (((cmdStart false { s with app := [] }).sequence .closed).hold (.sendStart buf len (addr7 a) rep)).soft =
      blockingView s s.mem (.sendStart buf len (addr7 a) rep) := rfl
  obtain ⟨u, addressed, uSoft, uBus⟩ := poised.blocking_address held
    (command_bus (s := { s with app := [] }) poised.bus _ _ _ _ _) fun u => hostTurn_sendStart
  obtain ⟨v, data, vSoft, ended⟩ := poised.blocking_send uSoft fits.inRange length uBus
  obtain ⟨x, stops, xSoft, int, owned, wire, moves⟩ := ended.run
  have soft := xSoft.trans vSoft
  refine ⟨x, run_transaction begins addressed data stops, wire, owned, int,
    (congrArg SoftView.ie soft).trans poised.masked, congrArg SoftView.host soft, congrArg SoftView.app soft, moves,
    congrArg SoftView.inst soft, congrArg SoftView.mem soft, congrArg SoftView.events soft,
    congrArg SoftView.errors soft, (congrArg SoftView.halted soft).trans poised.running⟩

/-- R63: a buffer that fits has room for bytes as many as its length. -/
theorem BufferFits.room {buf : Ptr} {len : Len} {bytes : List Byte} (fits : BufferFits buf len)
    (length : bytes.length = len.toNat) : buf.toNat + bytes.length ≤ 65536 := by
  by_cases none : len = 0#16
  · simp [length, none, buf.isLt.le]
  · rw [length]
    exact (fits.inRange none).2

/-- Settles O28: the command, the address phase, the data phase and the STOP, by `run_transaction`; what is stored is read
back by `bufferBytes_storeBytes`. -/
theorem blockingReceiveRun : Obligations.BlockingReceiveRun := by
  unfold Obligations.BlockingReceiveRun
  intro s buf len a rep bytes more poised order wf range fits length
  rw [List.append_assoc, List.append_assoc] at poised
  have begins := poised.issues rfl (sevenBit_iff.2 range)
  rw [exec_masterReceive poised.blockingAllowed range fits order] at begins
  have held : (((cmdStart false { s with app := [] }).sequence .closed).hold (.receiveStart buf len (addr7 a) rep)).soft =
      blockingView s s.mem (.receiveStart buf len (addr7 a) rep) := rfl
  obtain ⟨u, addressed, uSoft, uBus⟩ := poised.blocking_address held
    (command_bus (s := { s with app := [] }) poised.bus _ _ _ _ _) fun u => hostTurn_receiveStart
  obtain ⟨v, data, vSoft, ended⟩ := poised.blocking_receive uSoft fits.inRange length uBus
  obtain ⟨x, stops, xSoft, int, owned, wire, moves⟩ := ended.run
  have soft := xSoft.trans vSoft
  have mem : x.mem = storeBytes s.mem buf bytes := congrArg SoftView.mem soft
  have room := fits.room length
  refine ⟨x, run_transaction begins addressed data stops, wire, ?_, fun k outside => ?_, owned, int,
    (congrArg SoftView.ie soft).trans poised.masked, congrArg SoftView.host soft, congrArg SoftView.app soft, moves,
    congrArg SoftView.inst soft, congrArg SoftView.events soft, congrArg SoftView.errors soft,
    (congrArg SoftView.halted soft).trans poised.running⟩
  · rw [mem, ← length, bufferBytes_storeBytes wf room]
  · rw [mem, read_storeBytes_outside wf room (length ▸ outside)]

end Sys2Proof.Machine
end

section
/-! PROOFS. The asynchronous transactions run to their end (R190, R191, R215, R216): the handler drives the phases, one
invocation for each completion. -/

namespace Sys2Proof.Machine

/-- What software looks like during an asynchronous transaction with Instance State `i`: the interrupt is enabled, and
nothing else differs from the state that the command found but memory. -/
def asyncView (s : State) (i : Inst) (m : Memory) : SoftView :=
  { s.soft with inst := i, mem := m, app := [], ie := true, inHandler := false }

/-- R171: an asynchronous transaction is over: the instance closed, its event delivered. -/
def closedView (s : State) (i : Inst) (m : Memory) (ev : Event) : SoftView :=
  { asyncView s i m with events := s.events ++ [ev], ie := false, callbacks := [] }

/-- Instance State during a send, with `len` bytes left at `buf`. -/
def sendingInst (s : State) (a : Addr7) (rep : Bool) (buf : Ptr) (len : Len) : Inst :=
  { s.inst with pTx := buf, txLen := len, devAddr := a, rep := rep, state := .busyTx }

/-- Instance State during a receive, with `len` bytes to come to `buf`. -/
def receivingInst (s : State) (a : Addr7) (rep : Bool) (buf : Ptr) (len : Len) : Inst :=
  { s.inst with pRx := buf, rxLen := len, devAddr := a, rep := rep, state := .busyRx }

/-- A close (R194, R219) changes Instance State and clears the interrupt enable; what is in flight it leaves. -/
structure Closes (close : State → State) (closed : Inst → Inst) : Prop where
  soft : ∀ t, (close t).soft = { t.soft with inst := closed t.inst, ie := false }
  bus : ∀ t, (close t).bus = t.bus
  env : ∀ t, (close t).env = t.env
  cfg : ∀ i, (closed i).cfg = i.cfg

theorem closeSendOp_closes : Closes closeSendOp fun i => { i with state := .ready, pTx := null, txLen := 0#16 } :=
  ⟨fun _ => rfl, fun _ => rfl, fun _ => rfl, fun _ => rfl⟩

theorem closeReceiveOp_closes : Closes closeReceiveOp fun i => { i with state := .ready, pRx := null, rxLen := 0#16 } :=
  ⟨fun _ => rfl, fun _ => rfl, fun _ => rfl, fun _ => rfl⟩

/-- R191, R215: closed after a STOP or, for a repeated start, without one. -/
def closeOrStop (close : State → State) (rep : Bool) (t : State) : State :=
  if rep then close t else close (cmdStop t)

theorem Closes.closeOrStop_soft {close : State → State} {closed : Inst → Inst} (closes : Closes close closed)
    (rep : Bool) (t : State) :
    (closeOrStop close rep t).soft = { t.soft with inst := closed t.inst, ie := false } := by
  cases rep with
  | true => exact closes.soft t
  | false => exact closes.soft (cmdStop t)

theorem Closes.closeOrStop_bus {close : State → State} {closed : Inst → Inst} (closes : Closes close closed) (rep : Bool)
    {t : State} {c : Code} {wire : List WireItem} {moves : List EnvMove}
    (bus : t.bus = ⟨true, .none, false, true, c, wire, moves⟩) :
    (closeOrStop close rep t).bus = ⟨rep, if rep then .none else .stop, false, true, c, wire, moves⟩ := by
  cases rep with
  | true => exact (closes.bus t).trans bus
  | false => exact (closes.bus (cmdStop t)).trans (command_bus bus _ _ _ _ _)

theorem Closes.closeOrStop_loud {close : State → State} {closed : Inst → Inst} (closes : Closes close closed) {t : State}
    (master : t.inst.cfg.role = .master) (noError : t.sr.code ≠ Status.busError) :
    (closeOrStop close false t).env.stopSilent = false :=
  (congrArg EnvState.stopSilent (closes.env (cmdStop t))).trans (State.stopIsSilent_eq_false master noError)

/-- A send whose every byte is acknowledged. -/
theorem zipWith_tx_acknowledged (bytes : List Byte) :
    List.zipWith WireItem.tx bytes (List.replicate bytes.length true) = bytes.map fun b => WireItem.tx b true := by
  induction bytes with
  | nil => rfl
  | cons b bytes ih => rw [List.length_cons, List.replicate_succ, List.zipWith_cons_cons, ih, List.map_cons]

/-- R169: the guard of a store holds while bytes are to come. -/
theorem canStore_of_receiving {s t : State} {a : Addr7} {rep : Bool} {buf : Ptr} {len : Len}
    (inst : t.inst = receivingInst s a rep buf len) (range : InRange buf len) (someLeft : len ≠ 0#16) :
    (enterHandler t).canStore = true :=
  State.canStore_iff.2 ⟨congrArg Inst.state inst, by exact inst ▸ someLeft, by exact inst ▸ (range someLeft).1⟩

section
variable {s : State} {w : List Byte} {moves₀ : List EnvMove} (poised : Poised s w moves₀)
include poised

theorem Poised.asyncView_eager (i : Inst) (m : Memory) : Eager (asyncView s i m) :=
  ⟨poised.running, poised.noPortWord, poised.eager⟩

theorem Poised.closedView_eager (i : Inst) (m : Memory) (ev : Event) : Eager (closedView s i m ev) :=
  ⟨poised.running, poised.noPortWord, poised.eager⟩

/-- R272: the completion is the handler's to take; it runs the arm of the code. -/
theorem Poised.step_async {t u : State} {i : Inst} {m : Memory} {owned : Bool} {c : Code} {wire : List WireItem}
    {moves : List EnvMove} (gie : s.gie = true) (soft : t.soft = asyncView s i m)
    (bus : t.bus = ⟨true, .none, false, owned, c, wire, moves⟩)
    (arm : exec (armOf (decide (i.txLen ≠ 0#16)) c) (enterHandler t) = .next u) : step t = .next (leaveHandler u) := by
  have eager : Eager t.soft := soft ▸ poised.asyncView_eager i m
  have int : t.cr.int = true := congrArg BusView.int bus
  have ie : t.cr.ie = true := congrArg SoftView.ie soft
  have enabled : t.gie = true := (congrArg SoftView.gie soft).trans gie
  have noHandler : t.inHandler = false := congrArg SoftView.inHandler soft
  have running : t.halted = false := eager.running
  have interrupt : t.interruptCondition = true := by
    simp [State.interruptCondition, State.pendingInterrupt, int, ie, enabled, noHandler, running]
  have fetched : t.fetchArm = armOf (decide (i.txLen ≠ 0#16)) c := by
    rw [State.fetchArm_of_code (congrArg BusView.code bus)]
    exact congrArg (fun v : SoftView => armOf (decide (v.inst.txLen ≠ 0#16)) c) soft
  rw [step_of_interrupt eager.resetNotNext interrupt, handlerStep, fetched, arm, andThen_next]

/-- R168: START and address of an asynchronous transaction. -/
theorem Poised.async_address {t : State} {i : Inst} {d : Dir} {owned : Bool} {c : Code} {wire : List WireItem}
    {moves : List EnvMove} (gie : s.gie = true) (soft : t.soft = asyncView s i s.mem)
    (arm : ∀ u : State, u.inst = i → armStart u = cmdXmit (addrByteOf i.devAddr d) u)
    (bus : t.bus = ⟨false, .start, false, owned, c, wire, acknowledging 2 ++ moves⟩) :
    ∃ u, Host.Core.run Sys2Proof.core 3 t = .next u ∧ u.soft = asyncView s i s.mem ∧
      u.bus = ⟨true, .none, false, true, addressAck d,
        wire ++ [if owned then .rstart else .start, .tx (addrByteOf i.devAddr d) true], moves⟩ := by
  have eager : Eager t.soft := soft ▸ poised.asyncView_eager _ _
  refine address_phase eager (poised.asyncView_eager i s.mem) bus fun u c wire uSoft started uBus => ?_
  have uView := uSoft.trans soft
  have inst : u.inst = i := congrArg SoftView.inst uView
  have int : u.cr.int = true := congrArg BusView.int uBus
  have runs : exec (armOf (decide (i.txLen ≠ 0#16)) c) (enterHandler u) =
      cmdXmit (addrByteOf i.devAddr d) (enterHandler u) := by
    rw [← arm (enterHandler u) inst]
    rcases started with rfl | rfl <;> rfl
  rw [cmdXmit_of_int (by exact int)] at runs
  refine ⟨_, poised.step_async gie uView uBus runs, ?_, ?_⟩
  · change { u.soft with inHandler := false } = _
    rw [uView]
    rfl
  · exact command_bus (s := { enterHandler u with dr := _ }) uBus _ _ _ _ _

/-- R187, R189: the handler hands a byte of the buffer over. -/
theorem Poised.async_byte {t : State} {a : Addr7} {rep : Bool} {buf : Ptr} {len : Len} {c : Code}
    {wire : List WireItem} {moves : List EnvMove} (gie : s.gie = true)
    (soft : t.soft = asyncView s (sendingInst s a rep buf len) s.mem) (range : InRange buf len)
    (someLeft : len ≠ 0#16) (acked : c = Status.slawAck ∨ c = Status.txdAck)
    (bus : t.bus = ⟨true, .none, false, true, c, wire, moves⟩) :
    ∃ v, step t = .next v ∧ v.soft = asyncView s (sendingInst s a rep (buf + 1#16) (len - 1#16)) s.mem ∧
      v.bus = ⟨false, .tx (s.mem.read buf.toNat), false, true, c, wire, moves⟩ := by
  have inst : t.inst = sendingInst s a rep buf len := congrArg SoftView.inst soft
  have byte : t.byteAt t.inst.pTx = s.mem.read buf.toNat :=
    congrArg (fun v => v.mem.read v.inst.pTx.toNat) soft
  have canSend : (enterHandler t).canSend = true :=
    State.canSend_iff.2 ⟨congrArg Inst.state inst, by exact inst ▸ someLeft, by exact inst ▸ (range someLeft).1⟩
  have arm : exec (armOf (decide ((sendingInst s a rep buf len).txLen ≠ 0#16)) c) (enterHandler t) =
      handOver (enterHandler t) := by
    have selects : decide ((sendingInst s a rep buf len).txLen ≠ 0#16) = true := decide_eq_true someLeft
    rw [selects]
    rcases acked with rfl | rfl <;> rfl
  rw [handOver_of_ready canSend (congrArg BusView.int bus)] at arm
  refine ⟨_, poised.step_async gie soft bus arm, ?_, ?_⟩
  · change { t.soft with
      inst := { t.soft.inst with pTx := t.soft.inst.pTx + 1#16, txLen := t.soft.inst.txLen - 1#16 }
      inHandler := false } = _
    rw [soft]
    rfl
  · rw [← byte]
    exact command_bus (s := { enterHandler t with dr := _ }) bus _ _ _ _ _

/-- R171, R191, R215: the handler ends the transaction: STOP or not, close, notify. -/
theorem Poised.async_end {close : State → State} {closed : Inst → Inst} (closes : Closes close closed) {ev : Event}
    {t t' : State} {i : Inst} {m m' : Memory} {c : Code} {wire : List WireItem} {moves : List EnvMove}
    (gie : s.gie = true) (soft : t.soft = asyncView s i m) (cfg : i.cfg = s.inst.cfg) (noError : c ≠ Status.busError)
    (bus : t.bus = ⟨true, .none, false, true, c, wire, moves⟩)
    (handled : t'.soft = { asyncView s i m' with inHandler := true }) (sameBus : t'.bus = t.bus)
    (arm : exec (armOf (decide (i.txLen ≠ 0#16)) c) (enterHandler t) = notify ev (closeOrStop close t'.inst.rep t')) :
    ∃ u, step t = .next u ∧ u.soft = closedView s (closed i) m' ev ∧ Ended i.rep wire moves u := by
  have inst : t'.inst = i := congrArg SoftView.inst handled
  have isRep : t'.inst.rep = i.rep := congrArg Inst.rep inst
  have master : t'.inst.cfg.role = .master := by rw [inst, cfg, poised.master]
  have code : t'.sr.code = c := congrArg BusView.code (sameBus.trans bus)
  rw [isRep] at arm
  have ends := closes.closeOrStop_soft i.rep t'
  rw [handled, inst] at ends
  have callbacks : (closeOrStop close i.rep t').callbacks = [] :=
    (congrArg SoftView.callbacks ends).trans poised.noCallback
  have quiet : QuietCallback (closeOrStop close i.rep t') := by simp [QuietCallback, State.nextCallback, callbacks]
  rw [notify_delivered quiet] at arm
  have view : (leaveHandler (delivered ev (closeOrStop close i.rep t'))).soft = closedView s (closed i) m' ev := by
    change { (closeOrStop close i.rep t').soft with
      events := (closeOrStop close i.rep t').soft.events ++ [ev]
      callbacks := (closeOrStop close i.rep t').callbacks.tail
      inHandler := false } = _
    rw [callbacks, ends]
    rfl
  refine ⟨_, poised.step_async gie soft bus arm, view, view ▸ poised.closedView_eager _ _ _, ?_, ?_, c,
    closes.closeOrStop_bus i.rep (sameBus.trans bus)⟩
  · have kept : (closed i).cfg = s.inst.cfg := (closes.cfg i).trans cfg
    exact (congrArg (fun v => v.inst.cfg.role) view).trans (kept ▸ poised.master)
  · intro stops
    rw [stops]
    exact closes.closeOrStop_loud master (code ▸ noError)

/-- R191: the end of an asynchronous send, at its last acknowledge. -/
theorem Poised.async_send_end {t : State} {a : Addr7} {rep : Bool} {buf : Ptr} {wire : List WireItem}
    {moves : List EnvMove} (gie : s.gie = true) (soft : t.soft = asyncView s (sendingInst s a rep buf 0#16) s.mem)
    (bus : t.bus = ⟨true, .none, false, true, Status.txdAck, wire, moves⟩) :
    ∃ u, step t = .next u ∧
      u.soft = closedView s { sendingInst s a rep null 0#16 with state := .ready } s.mem .txCmplt ∧
      Ended rep wire moves u := by
  have inst : t.inst = sendingInst s a rep buf 0#16 := congrArg SoftView.inst soft
  have handled : (enterHandler t).soft = { asyncView s (sendingInst s a rep buf 0#16) s.mem with inHandler := true } :=
    congrArg (fun v : SoftView => { v with inHandler := true }) soft
  have ends := poised.async_end closeSendOp_closes gie soft rfl (by decide) bus handled rfl
    (exec_stTxdAckLast (congrArg Inst.state inst) (congrArg Inst.txLen inst))
  exact ends

/-- R187 to R191: the data phase of an asynchronous send, from its acknowledged address. -/
theorem Poised.async_send {t : State} {a : Addr7} {rep : Bool} {buf : Ptr} {len : Len} {wire : List WireItem}
    {more : List EnvMove} (gie : s.gie = true) (soft : t.soft = asyncView s (sendingInst s a rep buf len) s.mem)
    (range : InRange buf len) (someBytes : len ≠ 0#16)
    (bus : t.bus = ⟨true, .none, false, true, Status.slawAck, wire, acknowledging len.toNat ++ more⟩) :
    ∃ u, Host.Core.run Sys2Proof.core (2 * len.toNat + 1) t = .next u ∧
      u.soft = closedView s { sendingInst s a rep null 0#16 with state := .ready } s.mem .txCmplt ∧
      Ended rep (wire ++ (bufferBytes s.mem buf.toNat len.toNat).map fun b => WireItem.tx b true) more u := by
  obtain ⟨v, first, vSoft, vBus⟩ := poised.async_byte gie soft range someBytes (.inl rfl) bus
  have counted : len.toNat = (len - 1#16).toNat + 1 := by bv_omega
  have moves : acknowledging len.toNat = answering (true :: List.replicate (len - 1#16).toNat true) := by
    rw [counted, acknowledging, answering, ← List.replicate_succ, List.map_replicate]
  rw [moves] at vBus
  obtain ⟨u, runs, uSoft, ended⟩ := send_phase (m := s.mem) (rep := rep) (more := more)
    (View := fun buf len => asyncView s (sendingInst s a rep buf len) s.mem) (Answered := (· = Status.txdAck))
    (sent := closedView s { sendingInst s a rep null 0#16 with state := .ready } s.mem .txCmplt)
    (fun _ _ => poised.asyncView_eager _ _)
    (fun t buf len c wire moves soft range someLeft acked bus =>
      poised.async_byte gie soft range someLeft (.inr acked) bus)
    (fun t buf c wire soft acked bus => poised.async_send_end gie soft (acked ▸ bus))
    true (List.replicate (len - 1#16).toNat true) vSoft (range.rest someBytes) List.length_replicate (.inl rfl)
    (fun _ acked => congrArg dataAnswer (List.eq_of_mem_replicate (n := _ + 1) acked)) vBus
  rw [List.length_replicate] at runs
  refine ⟨u, ?_, uSoft, ?_⟩
  · have steps : 2 * len.toNat + 1 = 1 + 2 * ((len - 1#16).toNat + 1) := by omega
    exact steps ▸ run_trans (run_one first) runs
  · have bytes : (bufferBytes s.mem (buf + 1#16).toNat (len - 1#16).toNat).length = (len - 1#16).toNat := by
      simp [bufferBytes]
    rwa [bufferBytes_cons s.mem range someBytes, List.map_cons, ← zipWith_tx_acknowledged, bytes]

/-- R215: the end of an asynchronous receive, at its last byte. -/
theorem Poised.async_receive_end {t : State} {a : Addr7} {rep : Bool} {m : Memory} {buf : Ptr} {wire : List WireItem}
    {moves : List EnvMove} (gie : s.gie = true) (soft : t.soft = asyncView s (receivingInst s a rep buf 1#16) m)
    (range : InRange buf 1#16) (bus : t.bus = ⟨true, .none, false, true, Status.rxdNack, wire, moves⟩) :
    ∃ u, step t = .next u ∧
      u.soft = closedView s { receivingInst s a rep null 0#16 with state := .ready } (m.write buf.toNat t.dr) .rxCmplt ∧
      Ended rep wire moves u := by
  have inst : t.inst = receivingInst s a rep buf 1#16 := congrArg SoftView.inst soft
  have mem : t.mem = m := congrArg SoftView.mem soft
  have pointer : t.inst.pRx = buf := congrArg Inst.pRx inst
  have stored : ((enterHandler t).storeAt buf t.dr).soft =
      { asyncView s (receivingInst s a rep buf 1#16) (m.write buf.toNat t.dr) with inHandler := true } := by
    change { t.soft with mem := t.mem.write buf.toNat t.dr, inHandler := true } = _
    rw [soft, mem]
    rfl
  have arm := exec_stRxdNack (canStore_of_receiving inst range (by decide))
  have ends := poised.async_end closeReceiveOp_closes gie soft rfl (by decide) bus stored rfl (pointer ▸ arm)
  exact ends

/-- R214: the handler stores a byte that is not the last and arms the next one. -/
theorem Poised.async_store {t : State} {a : Addr7} {rep : Bool} {m : Memory} {buf : Ptr} {len : Len}
    {wire : List WireItem} {moves : List EnvMove} (gie : s.gie = true)
    (soft : t.soft = asyncView s (receivingInst s a rep buf len) m) (range : InRange buf len) (someLeft : len ≠ 0#16)
    (bus : t.bus = ⟨true, .none, false, true, Status.rxdAck, wire, moves⟩) :
    ∃ v, step t = .next v ∧
      v.soft = asyncView s (receivingInst s a rep (buf + 1#16) (len - 1#16)) (m.write buf.toNat t.dr) ∧
      v.cr.ea = ackFor (len - 1#16) ∧ v.bus = ⟨false, .rx, false, true, Status.rxdAck, wire, moves⟩ := by
  have inst : t.inst = receivingInst s a rep buf len := congrArg SoftView.inst soft
  have arm := exec_stRxdAck (canStore_of_receiving inst range someLeft)
  have length : t.inst.rxLen = len := congrArg Inst.rxLen inst
  refine ⟨_, poised.step_async gie soft bus arm, ?_, congrArg (fun n => ackFor (n - 1#16)) length, ?_⟩
  · change { t.soft with
      inst := { t.soft.inst with pRx := t.soft.inst.pRx + 1#16, rxLen := t.soft.inst.rxLen - 1#16 }
      mem := t.soft.mem.write t.soft.inst.pRx.toNat t.dr
      inHandler := false } = _
    rw [soft]
    rfl
  · exact command_bus (s := ((enterHandler t).storeAt _ t.dr)) bus _ _ _ _ _

/-- R212 to R216: the data phase of an asynchronous receive, from its acknowledged address. -/
theorem Poised.async_receive {t : State} {a : Addr7} {rep : Bool} {buf : Ptr} {len : Len} {bytes : List Byte}
    {wire : List WireItem} {more : List EnvMove} (gie : s.gie = true)
    (soft : t.soft = asyncView s (receivingInst s a rep buf len) s.mem) (range : InRange buf len)
    (someBytes : len ≠ 0#16) (length : bytes.length = len.toNat)
    (bus : t.bus = ⟨true, .none, false, true, Status.slarAck, wire, yielding bytes ++ more⟩) :
    ∃ u, Host.Core.run Sys2Proof.core (2 * len.toNat + 1) t = .next u ∧
      u.soft = closedView s { receivingInst s a rep null 0#16 with state := .ready } (storeBytes s.mem buf bytes)
        .rxCmplt ∧
      Ended rep (wire ++ received bytes) more u := by
  have inst : t.inst = receivingInst s a rep buf len := congrArg SoftView.inst soft
  have arms := poised.step_async gie soft bus (exec_stSlarAck (s := enterHandler t) (congrArg Inst.state inst))
  have armed : t.inst.rxLen = len := congrArg Inst.rxLen inst
  have armedSoft : (leaveHandler (cmdArm (ackFor t.inst.rxLen) (enterHandler t))).soft =
      asyncView s (receivingInst s a rep buf len) s.mem := by
    change { t.soft with inHandler := false } = _
    rw [soft]
    rfl
  cases bytes with
  | nil => exact absurd (BitVec.eq_of_toNat_eq length.symm) someBytes
  | cons b bytes =>
    obtain ⟨u, runs, uSoft, ended⟩ := receive_phase (rep := rep) (more := more)
      (View := fun m buf len => asyncView s (receivingInst s a rep buf len) m)
      (Received := fun m => closedView s { receivingInst s a rep null 0#16 with state := .ready } m .rxCmplt)
      (fun _ _ _ => poised.asyncView_eager _ _)
      (fun t m buf len wire moves soft range someLeft _ bus => poised.async_store gie soft range someLeft bus)
      (fun t m buf wire soft range bus => poised.async_receive_end gie soft range bus)
      b bytes armedSoft range length (congrArg ackFor armed) (.inl rfl)
      (command_bus (s := enterHandler t) bus _ _ _ _ _)
    refine ⟨u, ?_, uSoft, ended⟩
    have counted : 2 * len.toNat + 1 = 1 + 2 * (bytes.length + 1) := by
      rw [← length, List.length_cons]
      omega
    exact counted ▸ run_trans (run_one arms) runs

end

/-- R80: of `len + 2` acknowledges two answer START and address. -/
theorem acknowledging_add_two (n : Nat) : acknowledging (n + 2) = acknowledging 2 ++ acknowledging n := by
  rw [Nat.add_comm, acknowledging, acknowledging, acknowledging, List.replicate_add]

/-- Settles O59: the command, the address phase, the data phase and the STOP, by `run_transaction`. -/
theorem asyncSendRun : Obligations.AsyncSendRun := by
  unfold Obligations.AsyncSendRun
  intro s buf len a rep more poised gie range someBytes fits
  rw [acknowledging_add_two, List.append_assoc, List.append_assoc] at poised
  have begins := poised.issues rfl (sevenBit_iff.2 range)
  rw [exec_masterSendAsync, asyncEntry_accepted (poised.entryAllowed range) poised.ready someBytes fits] at begins
  have accepted : (acceptSend buf len (addr7 a) rep { s with app := [] }).soft =
      asyncView s (sendingInst s (addr7 a) rep buf len) s.mem := by
    rw [asyncView, ← poised.noHandler]
    rfl
  obtain ⟨u, addressed, uSoft, uBus⟩ := poised.async_address gie accepted
    (fun u inst => (armStart_of_busyTx (congrArg Inst.state inst)).trans (by rw [inst]))
    (command_bus (s := { s with app := [] }) poised.bus _ _ _ _ _)
  obtain ⟨v, data, vSoft, ended⟩ := poised.async_send gie uSoft fits.inRange someBytes uBus
  obtain ⟨x, stops, xSoft, int, owned, wire, moves⟩ := ended.run
  have soft := xSoft.trans vSoft
  exact ⟨x, run_transaction begins addressed data stops, wire, congrArg SoftView.events soft,
    congrArg SoftView.errors soft, congrArg SoftView.mem soft, congrArg SoftView.inst soft, congrArg SoftView.ie soft,
    int, owned, (congrArg SoftView.host soft).trans poised.idle, congrArg SoftView.app soft, moves⟩

/-- Settles O60: the command, the address phase, the data phase and the STOP, by `run_transaction`; what is stored is read
back by `bufferBytes_storeBytes`. -/
theorem asyncReceiveRun : Obligations.AsyncReceiveRun := by
  unfold Obligations.AsyncReceiveRun
  intro s buf len a rep bytes more poised wf gie range someBytes fits length
  rw [List.append_assoc, List.append_assoc] at poised
  have begins := poised.issues rfl (sevenBit_iff.2 range)
  rw [exec_masterReceiveAsync, asyncEntry_accepted (poised.entryAllowed range) poised.ready someBytes fits] at begins
  have accepted : (acceptReceive buf len (addr7 a) rep { s with app := [] }).soft =
      asyncView s (receivingInst s (addr7 a) rep buf len) s.mem := by
    rw [asyncView, ← poised.noHandler]
    rfl
  obtain ⟨u, addressed, uSoft, uBus⟩ := poised.async_address gie accepted
    (fun u inst => (armStart_of_busyRx (congrArg Inst.state inst)).trans (by rw [inst]))
    (command_bus (s := { s with app := [] }) poised.bus _ _ _ _ _)
  obtain ⟨v, data, vSoft, ended⟩ := poised.async_receive gie uSoft fits.inRange someBytes length uBus
  obtain ⟨x, stops, xSoft, int, owned, wire, moves⟩ := ended.run
  have soft := xSoft.trans vSoft
  have mem : x.mem = storeBytes s.mem buf bytes := congrArg SoftView.mem soft
  have room := fits.room length
  refine ⟨x, run_transaction begins addressed data stops, wire, ?_, fun k outside => ?_,
    congrArg SoftView.events soft, congrArg SoftView.errors soft, congrArg SoftView.inst soft,
    congrArg SoftView.ie soft, int, owned, (congrArg SoftView.host soft).trans poised.idle, congrArg SoftView.app soft,
    moves⟩
  · rw [mem, ← length, bufferBytes_storeBytes wf room]
  · rw [mem, read_storeBytes_outside wf room (length ▸ outside)]

end Sys2Proof.Machine
end
